-- ==== Sys2Proof/Word.lean ====
section
/-! DEFINITION. The word types of the block: u8 and u16 (00_scope.md R8). -/

namespace Sys2Proof

/-- u8 (R8): a byte of the wire, of a payload, of the receive buffer or of a host word. -/
abbrev Byte := BitVec 8

/-- u16 (R8): a throttle, the counter, a checksum, a `cmd_id`. -/
abbrev Half := BitVec 16

end Sys2Proof
end

