-- ==== Sys2Proof/Syntax.lean ====
section
/-! DEFINITION. Syntax: the phases, the throttle file, the frame record, and the one inductive of operations, a
constructor for each of the 17 rows of opcode_table.json. -/

namespace Sys2Proof

/-- The four states of the command state machine (10_state.md R21). -/
inductive Phase where
  | disarmed
  | arming
  | armed
  | disarming
deriving DecidableEq, Repr

/-- The throttle register file `thr[0..3]`, one u16 per motor slot (10_state.md R20). -/
structure Throttles where
  t0 : Half
  t1 : Half
  t2 : Half
  t3 : Half
deriving DecidableEq, Repr, Inhabited

/-- The frame record (10_state.md R37). `sync` and `length` are no fields of it. -/
structure Frame where
  flags    : Byte
  cmdId    : Half
  reserved : Half
  sequence : Byte
  payload  : List Byte
  checksum : Half
deriving DecidableEq, Repr

/-- The operations of opcode_table.json. The first fourteen are host words (30_encoding.md R100, R102); the last three
are the kinds of accepted wire frame, told apart by `cmd_id` (R91), each with the other fields of its frame record. -/
inductive Instr where
  /-- RESET, `0x01` (R290). -/
  | reset
  /-- ARM, `0x02` (R244). -/
  | arm
  /-- DISARM, `0x03` (R248). -/
  | disarm
  /-- SET_THROTTLE, `0x04` and four u16 (R250). -/
  | setThrottle (t0 t1 t2 t3 : Half)
  /-- ABORT, `0x05` (R252). -/
  | abort
  /-- TRANSPORT_ERROR, `0x06` (R254). -/
  | transportError
  /-- TICK, `0x07` (R256). -/
  | tick
  /-- RX_BYTE, `0x10` and the byte (R170). -/
  | rxByte (b : Byte)
  /-- RX_FLUSH, `0x11` (R172). -/
  | rxFlush
  /-- ENCODE, `0x20`; its operand `n` is the payload's length (R140). -/
  | encode (cmdId reserved : Half) (sequence : Byte) (payload : List Byte)
  /-- DECODE, `0x21`; its operand `n` is the data's length (R142). -/
  | decode (data : List Byte)
  /-- CHECKSUM, `0x22`; its operand `n` is the data's length (R144). -/
  | checksum (data : List Byte)
  /-- READ_REG, `0x30` and the register number (R292). -/
  | readReg (r : Byte)
  /-- ILLEGAL: any word that R102 calls illegal, kept whole (R294). -/
  | illegal (w : List Byte)
  /-- FRAME_A0D0: an accepted telemetry frame (R212). -/
  | frameA0d0 (flags : Byte) (reserved : Half) (sequence : Byte) (payload : List Byte) (checksum : Half)
  /-- FRAME_A021: an accepted command frame, read as feedback (R214). -/
  | frameA021 (flags : Byte) (reserved : Half) (sequence : Byte) (payload : List Byte) (checksum : Half)
  /-- FRAME_OTHER: an accepted frame of any other `cmd_id` (R215). -/
  | frameOther (fr : Frame)
deriving DecidableEq, Repr

end Sys2Proof
end

