-- ==== Sys2Proof/Config.lean ====
section
/-! DEFINITION. Config: the parameters an instance fixes for its lifetime (00_scope.md R5, R70), and the constants with no
body that stand for what no source gives. -/

namespace Sys2Proof

/-- The values of `P_CHECKSUM_ALG` (R5, R120, R121). -/
inductive ChecksumAlg where
  /-- The reflected loop with `0xA001` (R120). -/
  | crc16R
  /-- The loop with the constant `0x8005` itself (R121). -/
  | crc16R8005
  /-- The additive sum that the source names and does not define (R121). -/
  | sumUnspecified
deriving DecidableEq, Repr

/-- The parameters of R5. No operation writes one (R70). -/
structure Params where
  /-- `P_BURST_LEN` -/
  burstLen : Nat
  /-- `P_IDLE_THROTTLE` -/
  idleThrottle : Throttles
  /-- `P_A021_TEMPLATE` -/
  a021Template : Vector Byte 26
  /-- `P_STATE_BYTE_OF` -/
  stateByteOf : Phase → Byte
  /-- `P_CHECKSUM_ALG` -/
  checksumAlg : ChecksumAlg
  /-- `P_CNT_W` -/
  cntW : Nat
  /-- `P_RXBUF_CAP`: no rule reads it, since R31 shows that the buffer stays below it (log 13). -/
  rxbufCap : Nat
  /-- `P_TICK_PERIOD_MS`: "timing only, no rule reads it" (R5). -/
  tickPeriodMs : Rat

/-- The types of R5: a burst has at least one frame, and the buffer holds the longest frame. -/
abbrev Params.Valid (P : Params) : Prop := 1 ≤ P.burstLen ∧ 257 ≤ P.rxbufCap

namespace Config

/-- `P_IDLE_THROTTLE`, OPEN (R5, D18). FREE: no body, so no proof can use a value of it (log 2). -/
opaque idleThrottle : Throttles

/-- `P_A021_TEMPLATE`, OPEN (R5, R87, D28). FREE: no body; in particular it is not zero by default (log 2). -/
opaque a021Template : Vector Byte 26

/-- `P_STATE_BYTE_OF`, OPEN (R5, D27). FREE: no body (log 2). -/
opaque stateByteOf : Phase → Byte

/-- The checksum under `SUM_UNSPECIFIED`: "an uninterpreted total function" of the bytes (R121). FREE: no body (log 4). -/
opaque additiveSum : List Byte → Half

end Config

end Sys2Proof
end

