-- ==== Sys2Proof/Machine/Constants.lean ====
section
/-! DEFINITION. The fixed constants of 00_scope.md R6, the opcodes of 30_encoding.md R100, and the parameter values of
this hardware (R5). The literals are taken as the spec gives them, unaudited (93_implementation_defined.md I20; log 21). -/

namespace Sys2Proof

/-- `SYNC` -/
abbrev sync : Byte := 0x55#8
/-- `HDR_LEN` -/
abbrev hdrLen : Nat := 8
/-- `CRC_LEN` -/
abbrev crcLen : Nat := 2
/-- `MIN_FRAME` -/
abbrev minFrame : Nat := 10
/-- `MAX_PAYLOAD` -/
abbrev maxPayload : Nat := 247
/-- `CRC_INIT` -/
abbrev crcInit : Half := 0x3692#16
/-- `CRC_POLY` -/
abbrev crcPoly : Half := 0x8005#16
/-- `CRC_POLY` with its 16 bits reversed, the constant of R120's loop. UNVERIFIED: the reading is from general knowledge
(G1; log 3). -/
abbrev crcPolyReflected : Half := 0xA001#16
/-- `CMD_A021` -/
abbrev cmdA021 : Half := 0xA021#16
/-- `CMD_A0D0` -/
abbrev cmdA0d0 : Half := 0xA0D0#16
/-- `A021_LEN` -/
abbrev a021Len : Nat := 26
/-- `TELEM_MIN` -/
abbrev telemMin : Nat := 16
/-- `ARM_ON` -/
abbrev armOn : Byte := 0x80#8
/-- `ARM_OFF` -/
abbrev armOff : Byte := 0x00#8
/-- `TX_FLAGS` -/
abbrev txFlags : Byte := 0x00#8
/-- `TX_RESERVED` -/
abbrev txReserved : Half := 0x0001#16

/-- The opcode bytes of R100. -/
abbrev opReset : Byte := 0x01#8
abbrev opArm : Byte := 0x02#8
abbrev opDisarm : Byte := 0x03#8
abbrev opSetThrottle : Byte := 0x04#8
abbrev opAbort : Byte := 0x05#8
abbrev opTransportError : Byte := 0x06#8
abbrev opTick : Byte := 0x07#8
abbrev opRxByte : Byte := 0x10#8
abbrev opRxFlush : Byte := 0x11#8
abbrev opEncode : Byte := 0x20#8
abbrev opDecode : Byte := 0x21#8
abbrev opChecksum : Byte := 0x22#8
abbrev opReadReg : Byte := 0x30#8

/-- The parameters of this hardware: the "value" column of R5, the OPEN ones free (log 1, log 2). -/
def hw : Params where
  burstLen := 5
  idleThrottle := Config.idleThrottle
  a021Template := Config.a021Template
  stateByteOf := Config.stateByteOf
  checksumAlg := .crc16R
  cntW := 16
  rxbufCap := 257
  tickPeriodMs := 80

end Sys2Proof
end

