-- ==== Sys2Proof/Machine/Operands.lean ====
section
/-! DEFINITION. Operands: reading and writing fields of a byte list (00_scope.md R9, R10) and the length of a host word
(30_encoding.md R100, R101). -/

namespace Sys2Proof

/-- `d[i]` (R9). No rule reads past the end of `d`; there this answers zero, which nothing uses (log 15). -/
def byteAt (d : List Byte) (i : Nat) : Byte := d.getD i 0#8

/-- `d[a:b]` (R9): the lower bound included, the upper bound excluded. -/
def slice (d : List Byte) (a b : Nat) : List Byte := (d.take b).drop a

/-- A u16 from its low and high byte (R10). -/
def ofLoHi (lo hi : Byte) : Half := lo.setWidth 16 ||| (hi.setWidth 16 <<< 8)

/-- `le16(d, i)` (R10): the byte at the lower index is the low byte. -/
def le16 (d : List Byte) (i : Nat) : Half := ofLoHi (byteAt d i) (byteAt d (i + 1))

/-- `v[7:0]` (R8). -/
def loByte (v : Half) : Byte := v.setWidth 8

/-- `v[15:8]` (R8). -/
def hiByte (v : Half) : Byte := (v >>> 8).setWidth 8

/-- `le16bytes(v)` (R10). -/
def le16bytes (v : Half) : List Byte := [loByte v, hiByte v]

/-- The "total bytes" column of R100 for the opcode `op`, for the word `w` that begins with it; `none` where R100's table
has no such opcode (R102). A word too short to hold its `n` is held against the bytes before the payload or data, which it
lacks whatever `n` is (log 9). -/
def totalBytes (op : Byte) (w : List Byte) : Option Nat :=
  if op = opReset ∨ op = opArm ∨ op = opDisarm ∨ op = opAbort ∨ op = opTransportError ∨ op = opTick ∨ op = opRxFlush then
    some 1
  else if op = opSetThrottle then some 9
  else if op = opRxByte ∨ op = opReadReg then some 2
  else if op = opEncode then some (if w.length < 7 then 7 else 7 + (byteAt w 6).toNat)
  else if op = opDecode ∨ op = opChecksum then some (if w.length < 3 then 3 else 3 + (le16 w 1).toNat)
  else none

end Sys2Proof
end

