-- ==== Sys2Proof/Machine/State.lean ====
section
/-! DEFINITION. State: the error kinds and output records, the diagnostic counters, and the whole state of the block
(10_state.md R20..R45) with its reset value. -/

namespace Sys2Proof.Machine

/-- The error kinds of 60_exceptions.md R310, in the order of their codes. -/
inductive ErrorKind where
  | badSync
  | shortFrame
  | lengthMismatch
  | checksumMismatch
  | shortPayload
  | payloadTooLarge
  | transportIOError
  | truncated
  | illegalOp
  | opIgnored
deriving DecidableEq, Repr

/-- The errors `decode` raises, each with the info R310 records (40_codec.md R131). -/
inductive DecodeError where
  /-- The first byte. -/
  | badSync (first : Byte)
  /-- The number of bytes. -/
  | shortFrame (present : Nat)
  /-- The length byte and the number of bytes. -/
  | lengthMismatch (length : Byte) (present : Nat)
  /-- The stored and the recomputed checksum. -/
  | checksumMismatch (stored computed : Half)
deriving DecidableEq, Repr

/-- The `detail` of IllegalOp (45_host_control.md R294). DESIGN CHOICE: the spec fixes no form for it (log 9). -/
inductive IllegalDetail where
  /-- An empty word (R102). -/
  | emptyWord
  /-- An opcode that R100's table does not have (R102). -/
  | unknownOpcode
  /-- A word of `present` bytes where its opcode needs `need` (R102). -/
  | wrongLength (present need : Nat)
  /-- READ_REG of a register number that R40 does not assign (R292). -/
  | unassignedRegister (r : Byte)
deriving DecidableEq, Repr

/-- An error kind together with the info recorded for it (R310). -/
inductive Err where
  /-- BadSync, ShortFrame, LengthMismatch or ChecksumMismatch (R131). -/
  | decoding (e : DecodeError)
  /-- ShortPayload: `cmd_id`, bytes present, bytes needed (R216). -/
  | shortPayload (cmdId : Half) (present need : Nat)
  /-- PayloadTooLarge: the payload's length (R130). -/
  | payloadTooLarge (length : Nat)
  /-- TransportIOError (R262). -/
  | transportIOError
  /-- Truncated: bytes present, and the length byte or none (R166). -/
  | truncated (present : Nat) (length : Option Byte)
  /-- IllegalOp: the opcode, or none of an empty word, and the detail (R294). -/
  | illegalOp (opcode : Option Byte) (detail : Option IllegalDetail)
  /-- OpIgnored: opcode, phase, released bit (R264). -/
  | opIgnored (opcode : Byte) (phase : Phase) (released : Bool)
deriving DecidableEq, Repr

/-- The typed view of an accepted frame (43_router.md R210). -/
inductive Route where
  | telem (seq : Byte) (raw : Vector Half 8)
  | feedback (seq : Byte) (voltage : Half) (armRaw : Byte) (armed : Bool) (counter : Half) (state : Byte)
  | other
  | shortPayload
deriving DecidableEq, Repr

/-- What a RESULT carries when it is Ok: ENCODE's bytes, DECODE's frame, the number of CHECKSUM or READ_REG (R36). -/
inductive Value where
  | bytes (b : List Byte)
  | frame (fr : Frame)
  | num (n : Nat)
deriving DecidableEq, Repr

/-- `Ok(v)` or `Err(kind)` (R36). -/
inductive Res where
  | ok (v : Value)
  | err (e : Err)
deriving DecidableEq, Repr

/-- The records of the output sequence (10_state.md R36). -/
inductive Record where
  /-- A complete wire frame for the line (R256). -/
  | tx (frame : List Byte)
  /-- An accepted frame and its route (R210). -/
  | rx (frame : Frame) (route : Route)
  /-- An error kind and its info (R310). -/
  | report (e : Err)
  /-- The result of ENCODE, DECODE, CHECKSUM or READ_REG. -/
  | result (r : Res)
  /-- The block has given up the transport (R262). -/
  | released (xerr : Bool)
deriving DecidableEq, Repr

/-- The names of the diagnostic counters (10_state.md R32). -/
inductive CounterName where
  | rxOk
  | resync
  | badSync
  | shortFrame
  | lengthMismatch
  | checksumMismatch
  | truncated
  | discard
  | shortPayload
  | ignored
  | illegal
deriving DecidableEq, Repr

/-- The diagnostic counters, naturals below `2 ^ P_CNT_W` (10_state.md R32; log 12). -/
structure Counters where
  rxOk             : Nat := 0
  resync           : Nat := 0
  badSync          : Nat := 0
  shortFrame       : Nat := 0
  lengthMismatch   : Nat := 0
  checksumMismatch : Nat := 0
  truncated        : Nat := 0
  discard          : Nat := 0
  shortPayload     : Nat := 0
  ignored          : Nat := 0
  illegal          : Nat := 0
deriving DecidableEq, Repr

/-- The state of the block (10_state.md R20..R36). `ARMED` is no field: R24 computes it from the phase. -/
structure State where
  /-- `thr[0..3]` (R20) -/
  thr      : Throttles
  /-- `PH` (R21) -/
  phase    : Phase
  /-- `BURST` (R23) -/
  burst    : Nat
  /-- `COUNTER` (R25) -/
  counter  : Half
  /-- `TXSEQ` (R26) -/
  txseq    : Byte
  /-- `REL_PEND` (R27) -/
  relPend  : Bool
  /-- `RELEASED` (R28) -/
  released : Bool
  /-- `XERR` (R29) -/
  xerr     : Bool
  /-- `RXB` (R30) -/
  rxb      : List Byte
  /-- The diagnostic counters (R32) -/
  cnt      : Counters
  /-- `OUT`, the first record first (R36) -/
  out      : List Record
  /-- The host words presented and not yet performed, the next one first: the model's own field (R7, R296; log 5). -/
  pending  : List (List Byte)
deriving DecidableEq, Repr

/-- Why a step stops with a fault. It has no constructor: "No behaviour of the block faults or sticks. Every operation on
every input is defined" (93_implementation_defined.md section 1, last row). Safe: nothing raises it. -/
inductive Fault where
deriving DecidableEq, Repr

/-- Why a step is refused. -/
inductive Refusal where
  /-- An instruction of the table that has no meaning in the model. No arm of `exec` raises it: every row is modelled. Safe:
  nothing is claimed of an instruction so refused. -/
  | notModelled (mnemonic : String)
deriving DecidableEq, Repr

/-- The state at power-on: every element at its reset value, `OUT` empty (R45, R350). The throttles are `P_IDLE_THROTTLE`,
which is free (log 2). `pending` is empty: nothing has been presented (DESIGN CHOICE, log 5). -/
def State.reset : State where
  thr := hw.idleThrottle
  phase := .disarmed
  burst := 0
  counter := 0x0000#16
  txseq := 0x00#8
  relPend := false
  released := false
  xerr := false
  rxb := []
  cnt := {}
  out := []
  pending := []

end Sys2Proof.Machine
end

