-- ==== Sys2Proof/Machine/Codec.lean ====
section
/-! DEFINITION. The checksum unit and the frame codec as pure functions (40_codec.md R120..R137). The three host
operations that expose them stand in Machine/CodecOps.lean. -/

namespace Sys2Proof

/-- One of the eight inner rounds of R120's loop, for the constant `poly`. -/
def crcRound (poly c : Half) : Half :=
  if c.getLsbD 0 then (c >>> 1) ^^^ poly else c >>> 1

/-- One byte of R120's loop: it enters at the low end, then eight rounds. -/
def crcByte (poly c : Half) (b : Byte) : Half :=
  Nat.repeat (crcRound poly) 8 (c ^^^ b.setWidth 16)

/-- The loop of R120: `CRC_INIT` loaded as given, no final xor, no reflection of the result. -/
def crc (poly : Half) (d : List Byte) : Half :=
  d.foldl (crcByte poly) crcInit

/-- `checksum(d)` under each value of `P_CHECKSUM_ALG` (R120, R121). -/
def checksum (alg : ChecksumAlg) (d : List Byte) : Half :=
  match alg with
  | .crc16R => crc crcPolyReflected d
  | .crc16R8005 => crc crcPoly d
  | .sumUnspecified => Config.additiveSum d

/-- The length byte of a frame: it counts every byte after itself (30_encoding.md R81). -/
def lengthByte (payload : List Byte) : Byte := BitVec.ofNat 8 (hdrLen + payload.length)

/-- The bytes of a frame that its checksum covers, sync to payload (30_encoding.md R80, R83). -/
def frameBody (flags : Byte) (cmdId reserved : Half) (sequence : Byte) (payload : List Byte) : List Byte :=
  [sync, lengthByte payload, flags] ++ le16bytes cmdId ++ le16bytes reserved ++ [sequence] ++ payload

/-- The body followed by its checksum: what `encode` returns when it succeeds (40_codec.md R130). -/
def frameBytes (alg : ChecksumAlg) (cmdId reserved : Half) (sequence : Byte) (payload : List Byte) : List Byte :=
  let b := frameBody txFlags cmdId reserved sequence payload
  b ++ le16bytes (checksum alg b)

/-- `encode` (40_codec.md R130). -/
def encodeFrame (alg : ChecksumAlg) (cmdId reserved : Half) (sequence : Byte) (payload : List Byte) :
    Except Machine.Err (List Byte) :=
  if payload.length > maxPayload then .error (.payloadTooLarge payload.length)
  else .ok (frameBytes alg cmdId reserved sequence payload)

/-- `decode` (40_codec.md R131), its checks in the order of R132; a length byte below 8 is a LengthMismatch (R133) and
bytes after the frame are ignored (R134). -/
def decodeFrame (alg : ChecksumAlg) (data : List Byte) : Except Machine.DecodeError Frame :=
  if data.length < minFrame then .error (.shortFrame data.length)
  else if byteAt data 0 ≠ sync then .error (.badSync (byteAt data 0))
  else
    let len := (byteAt data 1).toNat
    if len < hdrLen ∨ data.length < len + 2 then .error (.lengthMismatch (byteAt data 1) data.length)
    else
      let stored := le16 data len
      let computed := checksum alg (data.take len)
      if computed ≠ stored then .error (.checksumMismatch stored computed)
      else .ok {
        flags := byteAt data 2
        cmdId := le16 data 3
        reserved := le16 data 5
        sequence := byteAt data 7
        payload := slice data hdrLen len
        checksum := stored }

/-- The bytes of a frame record on the wire (30_encoding.md R80), its own checksum last. -/
def Frame.wire (fr : Frame) : List Byte :=
  frameBody fr.flags fr.cmdId fr.reserved fr.sequence fr.payload ++ le16bytes fr.checksum

/-- A frame record that a wire frame can stand for: the payload fits (R81) and the checksum is that of the body (R83). -/
abbrev Frame.wf (alg : ChecksumAlg) (fr : Frame) : Prop :=
  fr.payload.length ≤ maxPayload ∧
    fr.checksum = Sys2Proof.checksum alg (frameBody fr.flags fr.cmdId fr.reserved fr.sequence fr.payload)

end Sys2Proof
end

