-- ==== Sys2Proof/Machine/Ops.lean ====
section
/-! DEFINITION. Ops: the named operations on the state that the rules share: `emit`, a counter's increment, the removal of
received bytes, and the procedures ENTER_DISARMING (R246), RELEASE (R262), IGNORE (R264) and ILLEGAL (R294). No error of this
block saves state or goes to a vector (R320), so ILLEGAL and IGNORE are all there is of taking an exception (log 18). -/

namespace Sys2Proof.Machine

/-- A counter's next value: plus one modulo `2 ^ P_CNT_W` (R32). -/
def countUp (P : Params) (n : Nat) : Nat := (n + 1) % 2 ^ P.cntW

/-- The counter named `c` (R32). -/
def Counters.get (k : Counters) : CounterName → Nat
  | .rxOk => k.rxOk
  | .resync => k.resync
  | .badSync => k.badSync
  | .shortFrame => k.shortFrame
  | .lengthMismatch => k.lengthMismatch
  | .checksumMismatch => k.checksumMismatch
  | .truncated => k.truncated
  | .discard => k.discard
  | .shortPayload => k.shortPayload
  | .ignored => k.ignored
  | .illegal => k.illegal

/-- The counter named `c` incremented once, every other one as it was (R32). -/
def Counters.bump (P : Params) (k : Counters) : CounterName → Counters
  | .rxOk => { k with rxOk := countUp P k.rxOk }
  | .resync => { k with resync := countUp P k.resync }
  | .badSync => { k with badSync := countUp P k.badSync }
  | .shortFrame => { k with shortFrame := countUp P k.shortFrame }
  | .lengthMismatch => { k with lengthMismatch := countUp P k.lengthMismatch }
  | .checksumMismatch => { k with checksumMismatch := countUp P k.checksumMismatch }
  | .truncated => { k with truncated := countUp P k.truncated }
  | .discard => { k with discard := countUp P k.discard }
  | .shortPayload => { k with shortPayload := countUp P k.shortPayload }
  | .ignored => { k with ignored := countUp P k.ignored }
  | .illegal => { k with illegal := countUp P k.illegal }

/-- `emit(o)`: the record enters `OUT` after every earlier one (00_scope.md R11, 10_state.md R36). -/
def State.emit (s : State) (o : Record) : State := { s with out := s.out ++ [o] }

/-- `CNT_<c> += 1` (R32). -/
def State.count (P : Params) (s : State) (c : CounterName) : State := { s with cnt := s.cnt.bump P c }

/-- `RXB <- RXB[n:]`: the first `n` received bytes are removed (R160). -/
def State.dropRx (s : State) (n : Nat) : State := { s with rxb := s.rxb.drop n }

/-- `RXB <- RXB ++ [b]` (R170). -/
def State.pushRx (s : State) (b : Byte) : State := { s with rxb := s.rxb ++ [b] }

/-- `ARMED`: one exactly in Arming and Armed (10_state.md R24). -/
def Phase.armedBit : Phase → Bool
  | .arming | .armed => true
  | .disarmed | .disarming => false

/-- `ARMED` of a state (R24): computed, never stored. -/
def State.armed (s : State) : Bool := Phase.armedBit s.phase

/-- ENTER_DISARMING (44_scheduler.md R246): a full burst, at the idle throttle. -/
def State.enterDisarming (P : Params) (s : State) : State :=
  { s with phase := .disarming, burst := 0, thr := P.idleThrottle }

/-- RELEASE (44_scheduler.md R262): the transport error, where there was one, is reported before the release. -/
def State.release (s : State) : State :=
  let s' := { s with released := true, relPend := false }
  (if s.xerr then s'.emit (.report .transportIOError) else s').emit (.released s.xerr)

/-- IGNORE(op) (44_scheduler.md R264), `op` given by its opcode byte. -/
def State.ignore (P : Params) (s : State) (op : Byte) : State :=
  (s.count P .ignored).emit (.report (.opIgnored op s.phase s.released))

/-- ILLEGAL (45_host_control.md R294): counted and reported, nothing else changes. -/
def State.illegalOp (P : Params) (s : State) (opcode : Option Byte) (detail : Option IllegalDetail) : State :=
  (s.count P .illegal).emit (.report (.illegalOp opcode detail))

end Sys2Proof.Machine
end

