-- ==== Sys2Proof/Machine/Flags.lean ====
section
/-! DEFINITION. Flags: the phase codes, the STATUS register assembled from the status bits, the error codes, and the
register map that READ_REG sees (10_state.md R21, R40; 60_exceptions.md R310). -/

namespace Sys2Proof.Machine

/-- The phase codes (10_state.md R21). -/
def Phase.code : Phase → Byte
  | .disarmed => 0#8
  | .arming => 1#8
  | .armed => 2#8
  | .disarming => 3#8

/-- A status bit as a byte with that bit at place `i`. -/
def bitAt (b : Bool) (i : Nat) : Byte := (BitVec.ofBool b).setWidth 8 <<< i

/-- `STATUS` (10_state.md R40): phase, ARMED, REL_PEND, RELEASED, XERR; bits 7:6 read as zero. -/
def State.status (s : State) : Byte :=
  Phase.code s.phase ||| bitAt s.armed 2 ||| bitAt s.relPend 3 ||| bitAt s.released 4 ||| bitAt s.xerr 5

/-- The registers of 10_state.md R40. -/
inductive Register where
  | status
  | burst
  | counter
  | txseq
  | thr0
  | thr1
  | thr2
  | thr3
  | rxbLevel
  | cnt (c : CounterName)
deriving DecidableEq, Repr

/-- The register of a number (R40); `none` of an unassigned one. -/
def registerOf (r : Byte) : Option Register :=
  match r.toNat with
  | 0x00 => some .status
  | 0x01 => some .burst
  | 0x02 => some .counter
  | 0x03 => some .txseq
  | 0x04 => some .thr0
  | 0x05 => some .thr1
  | 0x06 => some .thr2
  | 0x07 => some .thr3
  | 0x08 => some .rxbLevel
  | 0x10 => some (.cnt .rxOk)
  | 0x11 => some (.cnt .resync)
  | 0x12 => some (.cnt .badSync)
  | 0x13 => some (.cnt .shortFrame)
  | 0x14 => some (.cnt .lengthMismatch)
  | 0x15 => some (.cnt .checksumMismatch)
  | 0x16 => some (.cnt .truncated)
  | 0x17 => some (.cnt .discard)
  | 0x18 => some (.cnt .shortPayload)
  | 0x19 => some (.cnt .ignored)
  | 0x1A => some (.cnt .illegal)
  | _ => none

/-- The "width" column of R40. -/
def registerWidth (P : Params) : Register → Nat
  | .status | .burst | .txseq => 8
  | .counter | .thr0 | .thr1 | .thr2 | .thr3 | .rxbLevel => 16
  | .cnt _ => P.cntW

/-- What a register holds, as a number (R40). -/
def registerContent (s : State) : Register → Nat
  | .status => s.status.toNat
  | .burst => s.burst
  | .counter => s.counter.toNat
  | .txseq => s.txseq.toNat
  | .thr0 => s.thr.t0.toNat
  | .thr1 => s.thr.t1.toNat
  | .thr2 => s.thr.t2.toNat
  | .thr3 => s.thr.t3.toNat
  | .rxbLevel => s.rxb.length
  | .cnt c => s.cnt.get c

/-- What READ_REG returns of a register: its content in its width, zero-extended (R40; log 11). -/
def registerValue (P : Params) (s : State) (r : Register) : Nat :=
  registerContent s r % 2 ^ registerWidth P r

/-- The error kind of an error with its info (R310). -/
def Err.kind : Err → ErrorKind
  | .decoding (.badSync _) => .badSync
  | .decoding (.shortFrame _) => .shortFrame
  | .decoding (.lengthMismatch _ _) => .lengthMismatch
  | .decoding (.checksumMismatch _ _) => .checksumMismatch
  | .shortPayload .. => .shortPayload
  | .payloadTooLarge _ => .payloadTooLarge
  | .transportIOError => .transportIOError
  | .truncated _ _ => .truncated
  | .illegalOp _ _ => .illegalOp
  | .opIgnored .. => .opIgnored

/-- The numeric codes of R310. -/
def ErrorKind.code : ErrorKind → Nat
  | .badSync => 1
  | .shortFrame => 2
  | .lengthMismatch => 3
  | .checksumMismatch => 4
  | .shortPayload => 5
  | .payloadTooLarge => 6
  | .transportIOError => 7
  | .truncated => 8
  | .illegalOp => 9
  | .opIgnored => 10

end Sys2Proof.Machine
end

