-- ==== Sys2Proof/Machine/CodecOps.lean ====
section
/-! DEFINITION. The host operations of the codec: ENCODE, DECODE, CHECKSUM (40_codec.md R140, R142, R144). Each emits one
RESULT and touches nothing else (10_state.md R33). -/

namespace Sys2Proof.Machine

open Host (Outcome)

/-- The RESULT of ENCODE (R140). -/
def encodeResult (alg : ChecksumAlg) (cmdId reserved : Half) (sequence : Byte) (payload : List Byte) : Res :=
  match encodeFrame alg cmdId reserved sequence payload with
  | .ok b => .ok (.bytes b)
  | .error e => .err e

/-- The RESULT of DECODE (R142). -/
def decodeResult (alg : ChecksumAlg) (data : List Byte) : Res :=
  match decodeFrame alg data with
  | .ok fr => .ok (.frame fr)
  | .error e => .err (.decoding e)

/-- The RESULT of CHECKSUM (R144). -/
def checksumResult (alg : ChecksumAlg) (data : List Byte) : Res :=
  .ok (.num (checksum alg data).toNat)

/-- ENCODE (R140). -/
def execEncode (cmdId reserved : Half) (sequence : Byte) (payload : List Byte) (s : State) : Outcome State Fault Refusal :=
  .next (s.emit (.result (encodeResult hw.checksumAlg cmdId reserved sequence payload)))

/-- DECODE (R142): it does not route. -/
def execDecode (data : List Byte) (s : State) : Outcome State Fault Refusal :=
  .next (s.emit (.result (decodeResult hw.checksumAlg data)))

/-- CHECKSUM (R144). -/
def execChecksum (data : List Byte) (s : State) : Outcome State Fault Refusal :=
  .next (s.emit (.result (checksumResult hw.checksumAlg data)))

end Sys2Proof.Machine
end

