-- ==== Sys2Proof/Machine/Router.lean ====
section
/-! DEFINITION. The header/payload router (43_router.md R210..R216) and the meanings of the three FRAME rows. -/

namespace Sys2Proof.Machine

open Host (Outcome)

/-- SHORT(fr, need) (R210, R216): the RX record first, then the count, then the report. -/
def State.shortPayload (P : Params) (s : State) (fr : Frame) (need : Nat) : State :=
  ((s.emit (.rx fr .shortPayload)).count P .shortPayload).emit
    (.report (.shortPayload fr.cmdId fr.payload.length need))

/-- The TELEM view of a frame (R210, R212): eight u16 at payload offsets 0, 2, …, 14 (R90). -/
def telemRoute (fr : Frame) : Route :=
  let p := fr.payload
  .telem fr.sequence #v[le16 p 0, le16 p 2, le16 p 4, le16 p 6, le16 p 8, le16 p 10, le16 p 12, le16 p 14]

/-- The FEEDBACK view of a frame (R210, R214); `armed` only for `0x80` (R88). -/
def feedbackRoute (fr : Frame) : Route :=
  let p := fr.payload
  .feedback fr.sequence (le16 p 8) (byteAt p 15) (byteAt p 15 == armOn) (le16 p 16) (byteAt p 22)

/-- The `0xA0D0` case of ROUTE (R212). -/
def State.routeTelem (P : Params) (s : State) (fr : Frame) : State :=
  if fr.payload.length < telemMin then s.shortPayload P fr telemMin else s.emit (.rx fr (telemRoute fr))

/-- The `0xA021` case of ROUTE (R214). -/
def State.routeFeedback (P : Params) (s : State) (fr : Frame) : State :=
  if fr.payload.length < a021Len then s.shortPayload P fr a021Len else s.emit (.rx fr (feedbackRoute fr))

/-- The remaining case of ROUTE (R215). -/
def State.routeOther (s : State) (fr : Frame) : State := s.emit (.rx fr .other)

/-- ROUTE(fr) (R210): dispatch reads only `cmd_id` (R211). -/
def State.route (P : Params) (s : State) (fr : Frame) : State :=
  if fr.cmdId = cmdA0d0 then s.routeTelem P fr
  else if fr.cmdId = cmdA021 then s.routeFeedback P fr
  else s.routeOther fr

/-- FRAME_A0D0 (R212): what the block does with an accepted telemetry frame. -/
def execFrameA0d0 (flags : Byte) (reserved : Half) (sequence : Byte) (payload : List Byte) (cs : Half) (s : State) :
    Outcome State Fault Refusal :=
  .next (s.routeTelem hw { flags, cmdId := cmdA0d0, reserved, sequence, payload, checksum := cs })

/-- FRAME_A021 (R214): what the block does with an accepted command frame. -/
def execFrameA021 (flags : Byte) (reserved : Half) (sequence : Byte) (payload : List Byte) (cs : Half) (s : State) :
    Outcome State Fault Refusal :=
  .next (s.routeFeedback hw { flags, cmdId := cmdA021, reserved, sequence, payload, checksum := cs })

/-- FRAME_OTHER (R215): what the block does with an accepted frame of any other `cmd_id`. -/
def execFrameOther (fr : Frame) (s : State) : Outcome State Fault Refusal :=
  .next (s.routeOther fr)

end Sys2Proof.Machine
end

