-- ==== Sys2Proof/Machine/Framer.lean ====
section
/-! DEFINITION. The frame synchronizer: SCAN (41_framer.md R160..R169), RX_BYTE (R170) and RX_FLUSH (R172). -/

namespace Sys2Proof.Machine

open Host (Outcome)

/-- A candidate at the head of `rx` is incomplete (R162): its length byte or some of its `RXB[1] + 2` bytes are missing. -/
def incomplete (rx : List Byte) : Bool :=
  decide (rx.length < 2 ∨ rx.length < (byteAt rx 1).toNat + 2)

/-- The inner loop of R160 over the bytes `rx` at the head of the buffer: each byte that is not the sync byte is removed and
counted in CNT_DISCARD, without output (R161). -/
def State.skipToSync (P : Params) (s : State) : List Byte → State
  | [] => s
  | b :: rx => if b = sync then s else ((s.dropRx 1).count P .discard).skipToSync P rx

/-- `CNT_<E>` of a decode error (R165). -/
def DecodeError.counter : DecodeError → CounterName
  | .badSync _ => .badSync
  | .shortFrame _ => .shortFrame
  | .lengthMismatch _ _ => .lengthMismatch
  | .checksumMismatch _ _ => .checksumMismatch

/-- The Truncated branch of R160 (R166): the report, the two counts, and the sync byte removed. -/
def State.truncated (P : Params) (s : State) : State :=
  let length := if 2 ≤ s.rxb.length then some (byteAt s.rxb 1) else none
  (((s.emit (.report (.truncated s.rxb.length length))).count P .truncated).count P .resync).dropRx 1

/-- The accepted branch of R160 (R164): counted, routed, the candidate's `n` bytes removed. -/
def State.accept (P : Params) (s : State) (fr : Frame) (n : Nat) : State :=
  ((s.count P .rxOk).route P fr).dropRx n

/-- The rejected branch of R160 (R165): the two counts, the report, and exactly the sync byte removed. -/
def State.rejectCandidate (P : Params) (s : State) (e : DecodeError) : State :=
  (((s.count P e.counter).count P .resync).emit (.report (.decoding e))).dropRx 1

/-- What one pass of R160's loop leaves: the scan returns, or it goes round again. -/
inductive Pass where
  | stop (s : State)
  | again (s : State)
deriving DecidableEq, Repr

/-- One pass of R160's loop once the head of the buffer is empty or a sync byte. -/
def State.candidatePass (P : Params) (final : Bool) (s : State) : Pass :=
  if s.rxb.isEmpty then .stop s
  else if incomplete s.rxb then
    if final then .again (s.truncated P) else .stop s
  else
    let n := (byteAt s.rxb 1).toNat + 2
    match decodeFrame P.checksumAlg (s.rxb.take n) with
    | .ok fr => .again (s.accept P fr n)
    | .error e => .again (s.rejectCandidate P e)

/-- One pass of R160's loop. -/
def State.scanPass (P : Params) (final : Bool) (s : State) : Pass :=
  (s.skipToSync P s.rxb).candidatePass P final

/-- At most `fuel` passes of R160's loop. -/
def State.scanFor (P : Params) (final : Bool) : Nat → State → State
  | 0, s => s
  | fuel + 1, s =>
    match s.scanPass P final with
    | .stop s' => s'
    | .again s' => s'.scanFor P final fuel

/-- SCAN(final) (R160): the loop ends after at most `|RXB| + 1` passes (R169), so that many are allowed (log 14). -/
def State.scan (P : Params) (final : Bool) (s : State) : State :=
  s.scanFor P final (s.rxb.length + 1)

/-- RX_BYTE(b) for the parameters `P` (R170). -/
def State.rxByte (P : Params) (s : State) (b : Byte) : State := (s.pushRx b).scan P false

/-- RX_FLUSH for the parameters `P` (R172). -/
def State.rxFlush (P : Params) (s : State) : State := s.scan P true

/-- RX_BYTE (R170): accepted in every phase, also after RELEASE. -/
def execRxByte (b : Byte) (s : State) : Outcome State Fault Refusal :=
  .next (s.rxByte hw b)

/-- RX_FLUSH (R172). -/
def execRxFlush (s : State) : Outcome State Fault Refusal :=
  .next (s.rxFlush hw)

end Sys2Proof.Machine
end

