-- ==== Sys2Proof/WellFormed.lean ====
section
/-! DEFINITION. WellFormed: which terms of `Instr` stand for a word of the host or a frame of the wire. -/

namespace Sys2Proof

/-- A legal host word: its opcode is in R100's table and its length is that opcode's "total bytes" (30_encoding.md R102). -/
def legalWord (w : List Byte) : Bool :=
  match w with
  | [] => false
  | op :: _ => totalBytes op w == some w.length

/-- The frame record that a FRAME instruction carries. -/
def Instr.frame? : Instr → Option Frame
  | .frameA0d0 flags reserved sequence payload cs =>
    some { flags, cmdId := cmdA0d0, reserved, sequence, payload, checksum := cs }
  | .frameA021 flags reserved sequence payload cs =>
    some { flags, cmdId := cmdA021, reserved, sequence, payload, checksum := cs }
  | .frameOther fr => some fr
  | .reset | .arm | .disarm | .setThrottle .. | .abort | .transportError | .tick | .rxByte _ | .rxFlush
  | .encode .. | .decode _ | .checksum _ | .readReg _ | .illegal _ => none

/-- The checks of each constructor: a byte list fits its count `n` (R100), an illegal word is one that R102 calls illegal, a
frame is one the wire can carry under the hardware's checksum, and FRAME_OTHER has neither known `cmd_id` (R91). -/
def Instr.wellFormed : Instr → Bool
  | .encode _ _ _ payload => decide (payload.length < 256)
  | .decode data => decide (data.length < 65536)
  | .checksum data => decide (data.length < 65536)
  | .illegal w => !legalWord w
  | .frameA0d0 flags reserved sequence payload cs =>
    decide (Frame.wf hw.checksumAlg { flags, cmdId := cmdA0d0, reserved, sequence, payload, checksum := cs })
  | .frameA021 flags reserved sequence payload cs =>
    decide (Frame.wf hw.checksumAlg { flags, cmdId := cmdA021, reserved, sequence, payload, checksum := cs })
  | .frameOther fr => decide (Frame.wf hw.checksumAlg fr ∧ fr.cmdId ≠ cmdA0d0 ∧ fr.cmdId ≠ cmdA021)
  | .reset | .arm | .disarm | .setThrottle .. | .abort | .transportError | .tick | .rxByte _ | .rxFlush | .readReg _ => true

end Sys2Proof
end

