-- ==== Sys2Proof/Decode.lean ====
section
/-! DEFINITION. Decode: from a host word to its operation (30_encoding.md R100..R103), from a wire frame to its FRAME row
(R91), and back. Every word decodes: what R102 calls illegal is the ILLEGAL row, rejected there by name. -/

namespace Sys2Proof

open Machine (IllegalDetail DecodeError)

/-- Why a word is illegal (R102); `none` of a legal word. -/
def rejection (w : List Byte) : Option IllegalDetail :=
  match w with
  | [] => some .emptyWord
  | op :: _ =>
    match totalBytes op w with
    | none => some .unknownOpcode
    | some n => if w.length = n then none else some (.wrongLength w.length n)

/-- The operation of a legal word, its operands read by R101. -/
def decodeLegal (w : List Byte) : Instr :=
  let op := byteAt w 0
  if op = opReset then .reset
  else if op = opArm then .arm
  else if op = opDisarm then .disarm
  else if op = opSetThrottle then .setThrottle (le16 w 1) (le16 w 3) (le16 w 5) (le16 w 7)
  else if op = opAbort then .abort
  else if op = opTransportError then .transportError
  else if op = opTick then .tick
  else if op = opRxByte then .rxByte (byteAt w 1)
  else if op = opRxFlush then .rxFlush
  else if op = opEncode then
    .encode (le16 w 1) (le16 w 3) (byteAt w 5) (slice w 7 (7 + (byteAt w 6).toNat))
  else if op = opDecode then .decode (slice w 3 (3 + (le16 w 1).toNat))
  else if op = opChecksum then .checksum (slice w 3 (3 + (le16 w 1).toNat))
  else if op = opReadReg then .readReg (byteAt w 1)
  else .illegal w

/-- The operation of a host word (R296): total, ILLEGAL where R102 says so. -/
def decode (w : List Byte) : Instr :=
  match rejection w with
  | none => decodeLegal w
  | some _ => .illegal w

/-- The FRAME row of a frame record: dispatch reads only `cmd_id` (43_router.md R211). -/
def Instr.ofFrame (fr : Frame) : Instr :=
  if fr.cmdId = cmdA0d0 then .frameA0d0 fr.flags fr.reserved fr.sequence fr.payload fr.checksum
  else if fr.cmdId = cmdA021 then .frameA021 fr.flags fr.reserved fr.sequence fr.payload fr.checksum
  else .frameOther fr

/-- The FRAME row of the bytes of a wire frame, rejected by the error that `decode` of R131 raises. -/
def decodeWire (d : List Byte) : Except DecodeError Instr :=
  match decodeFrame hw.checksumAlg d with
  | .ok fr => .ok (.ofFrame fr)
  | .error e => .error e

/-- The bytes of an instruction: of the first fourteen the host word (R100), of a FRAME row the wire frame (R80). -/
def encode : Instr → List Byte
  | .reset => [opReset]
  | .arm => [opArm]
  | .disarm => [opDisarm]
  | .setThrottle t0 t1 t2 t3 => [opSetThrottle] ++ le16bytes t0 ++ le16bytes t1 ++ le16bytes t2 ++ le16bytes t3
  | .abort => [opAbort]
  | .transportError => [opTransportError]
  | .tick => [opTick]
  | .rxByte b => [opRxByte, b]
  | .rxFlush => [opRxFlush]
  | .encode cmdId reserved sequence payload =>
    [opEncode] ++ le16bytes cmdId ++ le16bytes reserved ++ [sequence, BitVec.ofNat 8 payload.length] ++ payload
  | .decode data => [opDecode] ++ le16bytes (BitVec.ofNat 16 data.length) ++ data
  | .checksum data => [opChecksum] ++ le16bytes (BitVec.ofNat 16 data.length) ++ data
  | .readReg r => [opReadReg, r]
  | .illegal w => w
  | .frameA0d0 flags reserved sequence payload cs =>
    Frame.wire { flags, cmdId := cmdA0d0, reserved, sequence, payload, checksum := cs }
  | .frameA021 flags reserved sequence payload cs =>
    Frame.wire { flags, cmdId := cmdA021, reserved, sequence, payload, checksum := cs }
  | .frameOther fr => fr.wire

/-! The words of opcode_table.json. Its rows are of two kinds: a host row is numbered by the bits of a host word, an 8-bit
opcode; a FRAME row by the sixteen bits of `cmd_id` (log 8). -/

/-- The `k` lowest bytes of `w`, the first word first. -/
def bytesOf : Nat → Nat → List Byte
  | 0, _ => []
  | k + 1, w => BitVec.ofNat 8 w :: bytesOf k (w / 256)

/-- A host word given by its first bytes, all its operand bytes beyond them zero: zeros up to the opcode's total length. -/
def padWord (w : List Byte) : List Byte :=
  match w with
  | [] => []
  | op :: _ =>
    match totalBytes op (w ++ List.replicate 9 0#8) with
    | none => w
    | some n => w ++ List.replicate (n - w.length) 0#8

/-- The shortest payload that the format of `cmd_id` accepts (R210), all zeros. -/
def tablePayload (cmdId : Half) : List Byte :=
  List.replicate (if cmdId = cmdA0d0 then telemMin else if cmdId = cmdA021 then a021Len else 0) 0#8

/-- The wire frame of a FRAME row: `cmd_id` as given, every field the format does not fix zero, the payload the shortest its
format accepts, the checksum the hardware's. -/
def tableFrame (cmdId : Half) : List Byte :=
  frameBytes hw.checksumAlg cmdId 0#16 0#8 (tablePayload cmdId)

/-- Where a table word is presented: to the host port as a word, or on the wire as a frame. -/
inductive TableWord where
  | host (w : List Byte)
  | wire (d : List Byte)
deriving DecidableEq, Repr

/-- The bytes that stand for the table's word `w` of `nbits` bits: sixteen bits are a `cmd_id`, since only the FRAME rows have
sixteen; any other number of bits is a host word (log 8). -/
def layTableWord (nbits w : Nat) : TableWord :=
  if nbits = 16 then .wire (tableFrame (BitVec.ofNat 16 w))
  else .host (padWord (bytesOf (nbits / 8) w))

/-- The instruction the decoder reads from the table's word `w` of `nbits` bits. -/
def decodeTableWord (nbits w : Nat) : Option Instr :=
  match layTableWord nbits w with
  | .host b => some (decode b)
  | .wire d =>
    match decodeWire d with
    | .ok i => some i
    | .error _ => none

end Sys2Proof
end

