-- ==== Sys2Proof/Machine/HostControl.lean ====
section
/-! DEFINITION. The host control operations: RESET, READ_REG, ILLEGAL (45_host_control.md R290, R292, R294). -/

namespace Sys2Proof.Machine

open Host (Outcome)

/-- Every state element at its reset value (R45) and nothing else: `OUT` stays, and so do the words still to be performed,
which are not the block's. -/
def State.toReset (P : Params) (s : State) : State :=
  { s with
    thr := P.idleThrottle
    phase := .disarmed
    burst := 0
    counter := 0x0000#16
    txseq := 0x00#8
    relPend := false
    released := false
    xerr := false
    rxb := []
    cnt := {} }

/-- READ_REG(r) for the parameters `P` (R292). -/
def State.readReg (P : Params) (s : State) (r : Byte) : State :=
  match registerOf r with
  | some reg => s.emit (.result (.ok (.num (registerValue P s reg))))
  | none => s.illegalOp P (some opReadReg) (some (.unassignedRegister r))

/-- RESET (R290): no record, no disarm burst. -/
def execReset (s : State) : Outcome State Fault Refusal := .next (s.toReset hw)

/-- READ_REG (R292). -/
def execReadReg (r : Byte) (s : State) : Outcome State Fault Refusal := .next (s.readReg hw r)

/-- ILLEGAL of a word (R294): its first byte, or none of an empty word, and why it is illegal (log 9). -/
def execIllegal (w : List Byte) (s : State) : Outcome State Fault Refusal :=
  .next (s.illegalOp hw w.head? (rejection w))

end Sys2Proof.Machine
end

