-- ==== Sys2Proof/Machine/Builder.lean ====
section
/-! DEFINITION. The command payload builder (42_builder.md R190..R195). -/

namespace Sys2Proof.Machine

/-- The arm byte at payload offset 15 (10_state.md R24, 42_builder.md R194). -/
def armByte (armed : Bool) : Byte := if armed then armOn else armOff

/-- `build_a021` (R190), in the order of the payload's offsets (30_encoding.md R86): the throttles as given (R192), the other
fourteen bytes from the template (R191). -/
def buildA021 (P : Params) (armed : Bool) (t : Throttles) (st : Byte) (ctr : Half) : List Byte :=
  let T := P.a021Template
  [T[0], T[1]] ++ le16bytes t.t0 ++ [T[4], T[5]] ++ le16bytes t.t1 ++ le16bytes t.t2 ++ le16bytes t.t3 ++
    [T[12], T[13], T[14]] ++ [armByte armed] ++ le16bytes ctr ++ [T[18], T[19], T[20], T[21]] ++ [st] ++
    [T[23], T[24], T[25]]

/-- The payload the block sends in the state `s` (R256). -/
def State.commandPayload (P : Params) (s : State) : List Byte :=
  buildA021 P s.armed s.thr (P.stateByteOf s.phase) s.counter

/-- The frame the block sends in the state `s` (R195). `encode` cannot fail on 26 bytes of payload (R195), so its bytes are
taken directly (log 22). -/
def State.commandFrame (P : Params) (s : State) : List Byte :=
  frameBytes P.checksumAlg cmdA021 txReserved s.txseq (s.commandPayload P)

end Sys2Proof.Machine
end

