-- ==== Sys2Proof/Machine/Scheduler.lean ====
section
/-! DEFINITION. The command state machine (44_scheduler.md R240..R264): ARM, DISARM, SET_THROTTLE, ABORT, TRANSPORT_ERROR,
TICK, each for any parameters and then for this hardware's. -/

namespace Sys2Proof.Machine

open Host (Outcome)

/-- ARM (R244). -/
def State.arm (P : Params) (s : State) : State :=
  if s.released || s.phase != .disarmed then s.ignore P opArm
  else { s with phase := .arming, burst := 0, thr := P.idleThrottle }

/-- DISARM (R248). -/
def State.disarm (P : Params) (s : State) : State :=
  if s.released || s.phase == .disarmed || s.phase == .disarming then s.ignore P opDisarm
  else s.enterDisarming P

/-- SET_THROTTLE (R250): the four registers together, unclamped. -/
def State.setThrottle (P : Params) (s : State) (t : Throttles) : State :=
  if s.released || s.phase != .armed then s.ignore P opSetThrottle
  else { s with thr := t }

/-- The phase cases that ABORT and TRANSPORT_ERROR share (R252, R254). -/
def State.teardown (P : Params) (s : State) : State :=
  match s.phase with
  | .disarmed => s.release
  | .arming | .armed => { s.enterDisarming P with relPend := true }
  | .disarming => { s with relPend := true }

/-- ABORT (R252). -/
def State.abort (P : Params) (s : State) : State :=
  if s.released then s.ignore P opAbort else s.teardown P

/-- TRANSPORT_ERROR (R254). -/
def State.transportError (P : Params) (s : State) : State :=
  if s.released then s.ignore P opTransportError
  else { s with xerr := true }.teardown P

/-- The sending half of TICK (R256): the frame of the phase before any transition (R242), then both counters step. -/
def State.sendFrame (P : Params) (s : State) : State :=
  { s.emit (.tx (s.commandFrame P)) with counter := s.counter + 1, txseq := s.txseq + 1 }

/-- The end of a burst (R256): Arming becomes Armed (R258); Disarming becomes Disarmed (R260) and releases the transport
where that is pending (R262). -/
def State.endBurst (s : State) : State :=
  match s.phase with
  | .arming => { s with phase := .armed }
  | .disarming =>
    let s' := { s with phase := .disarmed }
    if s'.relPend then s'.release else s'
  | .disarmed | .armed => s

/-- The burst half of TICK (R256): one more frame of the burst sent. -/
def State.stepBurst (P : Params) (s : State) : State :=
  if s.burst + 1 = P.burstLen then { s with burst := 0 }.endBurst
  else { s with burst := s.burst + 1 }

/-- TICK (R256): silent, and no ignored operation, in Disarmed and after RELEASE. -/
def State.tick (P : Params) (s : State) : State :=
  if s.released || s.phase == .disarmed then s
  else
    let s' := s.sendFrame P
    match s.phase with
    | .arming | .disarming => s'.stepBurst P
    | .disarmed | .armed => s'

/-- ARM (R244). -/
def execArm (s : State) : Outcome State Fault Refusal := .next (s.arm hw)

/-- DISARM (R248). -/
def execDisarm (s : State) : Outcome State Fault Refusal := .next (s.disarm hw)

/-- SET_THROTTLE (R250). -/
def execSetThrottle (t0 t1 t2 t3 : Half) (s : State) : Outcome State Fault Refusal :=
  .next (s.setThrottle hw ⟨t0, t1, t2, t3⟩)

/-- ABORT (R252). -/
def execAbort (s : State) : Outcome State Fault Refusal := .next (s.abort hw)

/-- TRANSPORT_ERROR (R254). -/
def execTransportError (s : State) : Outcome State Fault Refusal := .next (s.transportError hw)

/-- TICK (R256). -/
def execTick (s : State) : Outcome State Fault Refusal := .next (s.tick hw)

end Sys2Proof.Machine
end

