-- ==== Sys2Proof/Machine/Dispatch.lean ====
section
/-! DEFINITION. Dispatch: one meaning for each row of opcode_table.json (45_host_control.md R296). -/

namespace Sys2Proof.Machine

def exec (i : Instr) (s : State) : Host.Outcome State Fault Refusal :=
  match i with
  | .reset => Sys2Proof.Machine.execReset s
  | .arm => Sys2Proof.Machine.execArm s
  | .disarm => Sys2Proof.Machine.execDisarm s
  | .setThrottle t0 t1 t2 t3 => Sys2Proof.Machine.execSetThrottle t0 t1 t2 t3 s
  | .abort => Sys2Proof.Machine.execAbort s
  | .transportError => Sys2Proof.Machine.execTransportError s
  | .tick => Sys2Proof.Machine.execTick s
  | .rxByte b => Sys2Proof.Machine.execRxByte b s
  | .rxFlush => Sys2Proof.Machine.execRxFlush s
  | .encode cmdId reserved sequence payload => Sys2Proof.Machine.execEncode cmdId reserved sequence payload s
  | .decode data => Sys2Proof.Machine.execDecode data s
  | .checksum data => Sys2Proof.Machine.execChecksum data s
  | .readReg r => Sys2Proof.Machine.execReadReg r s
  | .illegal w => Sys2Proof.Machine.execIllegal w s
  | .frameA0d0 flags reserved sequence payload cs => Sys2Proof.Machine.execFrameA0d0 flags reserved sequence payload cs s
  | .frameA021 flags reserved sequence payload cs => Sys2Proof.Machine.execFrameA021 flags reserved sequence payload cs s
  | .frameOther fr => Sys2Proof.Machine.execFrameOther fr s

end Sys2Proof.Machine
end

