-- ==== Sys2Proof/Machine/Fetch.lean ====
section
/-! DEFINITION. How words reach the block: the host presents them, and each is fetched in that order (00_scope.md R7,
45_host_control.md R296; log 5, log 16). -/

namespace Sys2Proof.Machine

/-- The next word's operation, and the state with that word taken; `none` when nothing is presented (R296, R340). -/
def State.fetch (s : State) : Option (Instr × State) :=
  match s.pending with
  | [] => none
  | w :: ws => some (decode w, { s with pending := ws })

/-- The host presents one word after those already presented (R7). -/
def State.present (s : State) (w : List Byte) : State := { s with pending := s.pending ++ [w] }

/-- The place of an operation in the order of 60_exceptions.md R318 item 3. DESIGN CHOICE: R318 names no place for an illegal
word; it comes last (log 16). FRAME rows are no host operations and are not presented as words. -/
def Instr.rank : Instr → Nat
  | .reset => 0
  | .transportError => 1
  | .abort => 2
  | .disarm => 3
  | .arm => 4
  | .setThrottle .. => 5
  | .tick => 6
  | .rxByte _ => 7
  | .rxFlush => 8
  | .encode .. => 9
  | .decode _ => 10
  | .checksum _ => 11
  | .readReg _ => 12
  | .illegal _ => 13
  | .frameA0d0 .. | .frameA021 .. | .frameOther _ => 14

/-- The word `w` put before the first word of `ws` that comes after it in the order of R318. -/
def insertByRank (w : List Byte) : List (List Byte) → List (List Byte)
  | [] => [w]
  | v :: vs => if Instr.rank (decode w) ≤ Instr.rank (decode v) then w :: v :: vs else v :: insertByRank w vs

/-- Words presented at once, in the order in which R318 has them performed; equal ones as given. -/
def serialize (ws : List (List Byte)) : List (List Byte) := ws.foldr insertByRank []

/-- The host presents several words at once (R318 item 3). -/
def State.presentTogether (s : State) (ws : List (List Byte)) : State :=
  { s with pending := s.pending ++ serialize ws }

/-- The bytes of a table word put where the next fetch meets them: a host word as the next word presented; a wire frame as a
buffer that lacks only its last byte, with the RX_BYTE of that byte as the next word (log 8). -/
def State.layWord (s : State) : TableWord → State
  | .host w => { s with pending := w :: s.pending }
  | .wire d => { s with rxb := d.dropLast, pending := [opRxByte, byteAt d (d.length - 1)] :: s.pending }

end Sys2Proof.Machine
end

