-- ==== Sys2Proof/Machine/Step.lean ====
section
/-! DEFINITION. Step: one host word, from its bytes to its whole effect (45_host_control.md R296). -/

namespace Sys2Proof.Machine

/-- One step: the next word presented is decoded and performed to completion (R296). With no word presented the block does
nothing (R340; log 6). -/
def step (s : State) : Host.Outcome State Fault Refusal :=
  match s.fetch with
  | none => .next s
  | some (i, s') => exec i s'

/-- `s` with the table's word `w` of `nbits` bits where the next step meets it (log 8). -/
def State.withFetchWord (s : State) (nbits w : Nat) : State := s.layWord (layTableWord nbits w)

end Sys2Proof.Machine
end

