-- ==== Sys2Proof/Safety.lean ====
section
/-! DEFINITION. Safety: what the statements speak of: sequences of operations, the frames and releases among the records, the
fields of a command frame, the loop of R160 as a relation, and the invariants that every step keeps. -/

namespace Sys2Proof.Machine

open Host (Outcome)

/-- The operations `is` performed in order, each to completion (00_scope.md R7). -/
def performAll : List Instr → State → Outcome State Fault Refusal
  | [], s => .next s
  | i :: is, s =>
    match exec i s with
    | .next s' => performAll is s'
    | .fault r => .fault r
    | .refused r => .refused r

/-- The frame of a TX record. -/
def Record.tx? : Record → Option (List Byte)
  | .tx f => some f
  | .rx _ _ | .report _ | .result _ | .released _ => none

/-- The frame of an RX record. -/
def Record.rx? : Record → Option Frame
  | .rx fr _ => some fr
  | .tx _ | .report _ | .result _ | .released _ => none

/-- A TX or a RELEASED record: what the transport's next owner must be able to rely on (R266). -/
def Record.onTransport : Record → Bool
  | .tx _ | .released _ => true
  | .rx _ _ | .report _ | .result _ => false

/-- The frames sent, in order. -/
def txFrames (rs : List Record) : List (List Byte) := rs.filterMap Record.tx?

/-- The frames accepted, in order. -/
def rxFrames (rs : List Record) : List Frame := rs.filterMap Record.rx?

/-- The arm byte of a command frame, at frame offset 23 (30_encoding.md R86). -/
def wireArm (f : List Byte) : Byte := byteAt f 23

/-- The counter of a command frame, at frame offsets 24 and 25 (R86). -/
def wireCounter (f : List Byte) : Half := le16 f 24

/-- The sequence byte of a frame, at offset 7 (R80). -/
def wireSequence (f : List Byte) : Byte := byteAt f 7

/-- The host operations that touch only the command state machine (44_scheduler.md). -/
def schedulerOp : Instr → Bool
  | .arm | .disarm | .setThrottle .. | .abort | .transportError | .tick => true
  | .reset | .rxByte _ | .rxFlush | .encode .. | .decode _ | .checksum _ | .readReg _ | .illegal _ | .frameA0d0 ..
  | .frameA021 .. | .frameOther _ => false

/-- Two states agree on the command state machine (10_state.md R20..R29). -/
abbrev State.sameCommand (s t : State) : Prop :=
  t.thr = s.thr ∧ t.phase = s.phase ∧ t.burst = s.burst ∧ t.counter = s.counter ∧ t.txseq = s.txseq ∧
    t.relPend = s.relPend ∧ t.released = s.released ∧ t.xerr = s.xerr

/-- A byte stream made of the whole wire frames `frs`, in order, with `n` garbage bytes anywhere around them, such that no
candidate that starts at a garbage sync byte decodes (the condition of 41_framer.md R175). -/
inductive FramesInGarbage (alg : ChecksumAlg) : List Byte → List Frame → Nat → Prop where
  | nil : FramesInGarbage alg [] [] 0
  | garbage {b : Byte} {d : List Byte} {frs : List Frame} {n : Nat}
      (noFalseFrame : b = sync → (byteAt d 0).toNat + 2 ≤ (b :: d).length →
        ∀ fr, decodeFrame alg ((b :: d).take ((byteAt d 0).toNat + 2)) ≠ .ok fr)
      (rest : FramesInGarbage alg d frs n) : FramesInGarbage alg (b :: d) frs (n + 1)
  | frame {fr : Frame} {d : List Byte} {frs : List Frame} {n : Nat} (good : fr.wf alg)
      (rest : FramesInGarbage alg d frs n) : FramesInGarbage alg (fr.wire ++ d) (fr :: frs) n

/-- The counters after a rejected candidate (41_framer.md R165), written out: `CNT_<E>` and CNT_RESYNC each go up by one modulo
`2 ^ P_CNT_W` (R32), and no other changes. -/
def countRejection (P : Params) (k : Counters) : DecodeError → Counters
  | .badSync _ =>
    { k with badSync := (k.badSync + 1) % 2 ^ P.cntW, resync := (k.resync + 1) % 2 ^ P.cntW }
  | .shortFrame _ =>
    { k with shortFrame := (k.shortFrame + 1) % 2 ^ P.cntW, resync := (k.resync + 1) % 2 ^ P.cntW }
  | .lengthMismatch _ _ =>
    { k with lengthMismatch := (k.lengthMismatch + 1) % 2 ^ P.cntW, resync := (k.resync + 1) % 2 ^ P.cntW }
  | .checksumMismatch _ _ =>
    { k with checksumMismatch := (k.checksumMismatch + 1) % 2 ^ P.cntW, resync := (k.resync + 1) % 2 ^ P.cntW }

/-- The loop of SCAN as R160 writes it, without any bound on its passes, each count written out as R32 has it. -/
inductive ScanLoop (P : Params) (final : Bool) : State → State → Prop where
  /-- The head of the buffer is no sync byte: removed and counted (R161). -/
  | discard {s t : State} {b : Byte} {rx : List Byte} (head : s.rxb = b :: rx) (noSync : b ≠ sync)
      (rest : ScanLoop P final
        { s with
          rxb := rx
          cnt := { s.cnt with discard := (s.cnt.discard + 1) % 2 ^ P.cntW } } t) : ScanLoop P final s t
  /-- The buffer is empty: the scan returns. -/
  | empty {s : State} (drained : s.rxb = []) : ScanLoop P final s s
  /-- An incomplete candidate in stream mode: the scan returns and waits (R162). -/
  | wait {s : State} {rx : List Byte} (stream : final = false) (head : s.rxb = sync :: rx)
      (short : rx = [] ∨ s.rxb.length < (byteAt s.rxb 1).toNat + 2) : ScanLoop P final s s
  /-- An incomplete candidate at the end of input: reported, counted twice, the sync byte removed (R166). -/
  | cut {s t : State} {rx : List Byte} (flush : final = true) (head : s.rxb = sync :: rx)
      (short : rx = [] ∨ s.rxb.length < (byteAt s.rxb 1).toNat + 2)
      (rest : ScanLoop P final
        { s with
          rxb := rx
          cnt := { s.cnt with
            truncated := (s.cnt.truncated + 1) % 2 ^ P.cntW
            resync := (s.cnt.resync + 1) % 2 ^ P.cntW }
          out := s.out ++ [.report (.truncated s.rxb.length rx.head?)] } t) : ScanLoop P final s t
  /-- A complete candidate that decodes: counted, routed, removed whole (R164). -/
  | accept {s t : State} {rx : List Byte} {fr : Frame} (head : s.rxb = sync :: rx) (more : rx ≠ [])
      (whole : (byteAt s.rxb 1).toNat + 2 ≤ s.rxb.length)
      (good : decodeFrame P.checksumAlg (s.rxb.take ((byteAt s.rxb 1).toNat + 2)) = .ok fr)
      (rest : ScanLoop P final
        { State.route P { s with cnt := { s.cnt with rxOk := (s.cnt.rxOk + 1) % 2 ^ P.cntW } } fr with
          rxb := s.rxb.drop ((byteAt s.rxb 1).toNat + 2) } t) : ScanLoop P final s t
  /-- A complete candidate that does not decode: counted twice, reported, exactly the sync byte removed (R165). -/
  | reject {s t : State} {rx : List Byte} {e : DecodeError} (head : s.rxb = sync :: rx) (more : rx ≠ [])
      (whole : (byteAt s.rxb 1).toNat + 2 ≤ s.rxb.length)
      (bad : decodeFrame P.checksumAlg (s.rxb.take ((byteAt s.rxb 1).toNat + 2)) = .error e)
      (rest : ScanLoop P final
        { s with
          rxb := rx
          cnt := countRejection P s.cnt e
          out := s.out ++ [.report (.decoding e)] } t) : ScanLoop P final s t

/-- The invariant of the burst counter (10_state.md R23). -/
abbrev State.BurstInv (P : Params) (s : State) : Prop :=
  s.burst < P.burstLen ∧ (s.phase = .disarmed ∨ s.phase = .armed → s.burst = 0)

/-- The invariant of the receive buffer between operations (10_state.md R30): empty, or an incomplete candidate. -/
abbrev State.RxbInv (s : State) : Prop :=
  s.rxb = [] ∨ (byteAt s.rxb 0 = sync ∧ (s.rxb.length < 2 ∨ s.rxb.length < (byteAt s.rxb 1).toNat + 2))

/-- Every diagnostic counter is a number of `P_CNT_W` bits (10_state.md R32). -/
abbrev State.CounterWidthInv (P : Params) (s : State) : Prop :=
  ∀ c : CounterName, s.cnt.get c < 2 ^ P.cntW

/-- What the counters say of resynchronization (41_framer.md R167, R168): two kinds of error never reach the synchronizer, and
the events are the sum of their causes. -/
abbrev State.ResyncInv (P : Params) (s : State) : Prop :=
  s.cnt.badSync = 0 ∧ s.cnt.lengthMismatch = 0 ∧
    s.cnt.resync % 2 ^ P.cntW =
      (s.cnt.shortFrame + s.cnt.checksumMismatch + s.cnt.badSync + s.cnt.lengthMismatch + s.cnt.truncated) % 2 ^ P.cntW

/-- The legal combinations of the phase and the status bits (44_scheduler.md R252, R254, R262, R264): a release is pending only
while a disarm burst runs, a released block is Disarmed with none pending, and a transport error is on its way out. -/
abbrev State.TeardownInv (s : State) : Prop :=
  (s.relPend = true → s.phase = .disarming) ∧
    (s.released = true → s.phase = .disarmed ∧ s.relPend = false) ∧
    (s.xerr = true → s.relPend = true ∨ s.released = true)

/-- All of the above. -/
structure State.Inv (P : Params) (s : State) : Prop where
  burst : s.BurstInv P
  rxb : s.RxbInv
  width : s.CounterWidthInv P
  resync : s.ResyncInv P
  teardown : s.TeardownInv

end Sys2Proof.Machine
end

