-- ==== Sys2Proof/Certificates/Slice0/Obligations.lean ====
section
/-! DEFINITION. The statements for the provers: what the rules of the spec say each operation and the whole block do. Where a
title or a docstring calls something the model's choice, it names the log entry. -/

open Sys2Proof Sys2Proof.Machine

/-- R45, R350: every element at its reset value, after RESET and at power-on; `OUT` kept by RESET, empty at power-on. That
RESET keeps the words presented is the model's choice (log 5). -/
def Obligations.ResetAndPowerOnGiveTheResetValues : Prop :=
  (∀ s : State, ∃ t : State, exec .reset s = .next t ∧
    t.thr = hw.idleThrottle ∧ t.phase = .disarmed ∧ t.burst = 0 ∧ t.counter = 0x0000#16 ∧ t.txseq = 0x00#8 ∧
    t.relPend = false ∧ t.released = false ∧ t.xerr = false ∧ t.rxb = [] ∧ (∀ c, t.cnt.get c = 0) ∧
    t.out = s.out ∧ t.pending = s.pending) ∧
  (∀ s : State, exec .reset s = .next { State.reset with out := s.out, pending := s.pending }) ∧
  State.reset.out = []

/-- R244: ARM is accepted only in Disarmed before a release; elsewhere it is ignored (R264). -/
def Obligations.ArmEntersArmingOrIsIgnored : Prop :=
  ∀ s : State,
    (s.released = false ∧ s.phase = .disarmed →
      exec .arm s = .next { s with phase := .arming, burst := 0, thr := hw.idleThrottle }) ∧
    (s.released = true ∨ s.phase ≠ .disarmed →
      exec .arm s = .next { s with
        cnt := { s.cnt with ignored := (s.cnt.ignored + 1) % 2 ^ 16 }
        out := s.out ++ [.report (.opIgnored 0x02#8 s.phase s.released)] })

/-- R248: DISARM enters Disarming from Arming and Armed; elsewhere it is ignored. -/
def Obligations.DisarmEntersDisarmingOrIsIgnored : Prop :=
  ∀ s : State,
    (s.released = false ∧ (s.phase = .arming ∨ s.phase = .armed) →
      exec .disarm s = .next { s with phase := .disarming, burst := 0, thr := hw.idleThrottle }) ∧
    (s.released = true ∨ s.phase = .disarmed ∨ s.phase = .disarming →
      exec .disarm s = .next { s with
        cnt := { s.cnt with ignored := (s.cnt.ignored + 1) % 2 ^ 16 }
        out := s.out ++ [.report (.opIgnored 0x03#8 s.phase s.released)] })

/-- R250: SET_THROTTLE writes the four registers as given, only in Armed; elsewhere it is ignored. -/
def Obligations.SetThrottleWritesTheFileOnlyInArmed : Prop :=
  ∀ (t0 t1 t2 t3 : Half) (s : State),
    (s.released = false ∧ s.phase = .armed →
      exec (.setThrottle t0 t1 t2 t3) s = .next { s with thr := ⟨t0, t1, t2, t3⟩ }) ∧
    (s.released = true ∨ s.phase ≠ .armed →
      exec (.setThrottle t0 t1 t2 t3) s = .next { s with
        cnt := { s.cnt with ignored := (s.cnt.ignored + 1) % 2 ^ 16 }
        out := s.out ++ [.report (.opIgnored 0x04#8 s.phase s.released)] })

/-- R252: ABORT in each phase, and after a release. -/
def Obligations.AbortTearsDownByPhase : Prop :=
  ∀ s : State,
    (s.released = true →
      exec .abort s = .next { s with
        cnt := { s.cnt with ignored := (s.cnt.ignored + 1) % 2 ^ 16 }
        out := s.out ++ [.report (.opIgnored 0x05#8 s.phase true)] }) ∧
    (s.released = false ∧ s.phase = .disarmed →
      exec .abort s = .next { s with
        released := true
        relPend := false
        out := s.out ++ (if s.xerr then [.report .transportIOError, .released true] else [.released false]) }) ∧
    (s.released = false ∧ (s.phase = .arming ∨ s.phase = .armed) →
      exec .abort s = .next { s with
        phase := .disarming, burst := 0, thr := hw.idleThrottle, relPend := true }) ∧
    (s.released = false ∧ s.phase = .disarming → exec .abort s = .next { s with relPend := true })

/-- R254: TRANSPORT_ERROR in each phase, and after a release. -/
def Obligations.TransportErrorTearsDownByPhase : Prop :=
  ∀ s : State,
    (s.released = true →
      exec .transportError s = .next { s with
        cnt := { s.cnt with ignored := (s.cnt.ignored + 1) % 2 ^ 16 }
        out := s.out ++ [.report (.opIgnored 0x06#8 s.phase true)] }) ∧
    (s.released = false ∧ s.phase = .disarmed →
      exec .transportError s = .next { s with
        xerr := true
        released := true
        relPend := false
        out := s.out ++ [.report .transportIOError, .released true] }) ∧
    (s.released = false ∧ (s.phase = .arming ∨ s.phase = .armed) →
      exec .transportError s = .next { s with
        xerr := true, phase := .disarming, burst := 0, thr := hw.idleThrottle, relPend := true }) ∧
    (s.released = false ∧ s.phase = .disarming →
      exec .transportError s = .next { s with xerr := true, relPend := true })

/-- R256: TICK, silent in Disarmed and after a release, else one command frame and the step of the burst. -/
def Obligations.TickSendsOneFrameAndStepsTheBurst : Prop :=
  ∀ s : State,
    let f := frameBytes .crc16R 0xA021#16 0x0001#16 s.txseq
      (buildA021 hw s.armed s.thr (hw.stateByteOf s.phase) s.counter)
    let sent : State := { s with out := s.out ++ [.tx f], counter := s.counter + 1, txseq := s.txseq + 1 }
    (s.released = true ∨ s.phase = .disarmed → exec .tick s = .next s) ∧
    (s.released = false ∧ s.phase = .armed → exec .tick s = .next sent) ∧
    (s.released = false ∧ (s.phase = .arming ∨ s.phase = .disarming) ∧ s.burst + 1 ≠ hw.burstLen →
      exec .tick s = .next { sent with burst := s.burst + 1 }) ∧
    (s.released = false ∧ s.phase = .arming ∧ s.burst + 1 = hw.burstLen →
      exec .tick s = .next { sent with burst := 0, phase := .armed }) ∧
    (s.released = false ∧ s.phase = .disarming ∧ s.burst + 1 = hw.burstLen ∧ s.relPend = false →
      exec .tick s = .next { sent with burst := 0, phase := .disarmed }) ∧
    (s.released = false ∧ s.phase = .disarming ∧ s.burst + 1 = hw.burstLen ∧ s.relPend = true →
      exec .tick s = .next { sent with
        burst := 0
        phase := .disarmed
        relPend := false
        released := true
        out := s.out ++ [.tx f] ++
          (if s.xerr then [.report .transportIOError, .released true] else [.released false]) })

/-- R86, R195: the bytes of the frame a TICK sends: 36 of them, the header, the throttles, the arm byte of the phase, the
counter, the state byte, the checksum, and the fourteen template bytes where they stand. -/
def Obligations.TickFrameHasTheCommandLayout : Prop :=
  ∀ s : State, s.released = false → s.phase ≠ .disarmed →
    ∃ (f : List Byte) (rs : List Record) (t : State), exec .tick s = .next t ∧ t.out = s.out ++ .tx f :: rs ∧
      f.length = 36 ∧ f.take 7 = [0x55#8, 0x22#8, 0x00#8, 0x21#8, 0xA0#8, 0x01#8, 0x00#8] ∧
      byteAt f 7 = s.txseq ∧
      le16 f 10 = s.thr.t0 ∧ le16 f 14 = s.thr.t1 ∧ le16 f 16 = s.thr.t2 ∧ le16 f 18 = s.thr.t3 ∧
      (s.phase = .arming ∨ s.phase = .armed → byteAt f 23 = 0x80#8) ∧ (s.phase = .disarming → byteAt f 23 = 0x00#8) ∧
      le16 f 24 = s.counter ∧ byteAt f 30 = hw.stateByteOf s.phase ∧
      (∀ k ∈ [0, 1, 4, 5, 12, 13, 14, 18, 19, 20, 21, 23, 24, 25],
        byteAt f (8 + k) = byteAt hw.a021Template.toList k) ∧
      le16 f 34 = checksum .crc16R (f.take 34)

/-- R160: RX_BYTE and RX_FLUSH run SCAN: they reach exactly the state that the loop of R160 returns in, every count of R161, R164,
R165 and R166 among what the loop writes. -/
def Obligations.ReceivingRunsTheScanLoop : Prop :=
  (∀ (b : Byte) (s : State), ∃ t : State, exec (.rxByte b) s = .next t ∧
    ∀ u : State, ScanLoop hw false { s with rxb := s.rxb ++ [b] } u ↔ u = t) ∧
  (∀ s : State, ∃ t : State, exec .rxFlush s = .next t ∧ ∀ u : State, ScanLoop hw true s u ↔ u = t)

/-- R30, R169 (the spec's own inference): the stream scan leaves an incomplete candidate or nothing, the flush leaves nothing. -/
def Obligations.ScanLeavesAnIncompleteCandidateAndFlushLeavesNothing : Prop :=
  (∀ (b : Byte) (s : State), ∃ t : State, exec (.rxByte b) s = .next t ∧ t.RxbInv) ∧
  (∀ s : State, ∃ t : State, exec .rxFlush s = .next t ∧ t.rxb = [])

/-- R164 with R160: the RX_BYTE that completes a good frame counts it and performs the frame's FRAME row, nothing else. -/
def Obligations.CompletedFramePerformsItsFrameRow : Prop :=
  ∀ (fr : Frame) (s : State), fr.wf .crc16R → s.rxb = fr.wire.dropLast →
    ∃ t : State,
      exec (.rxByte (byteAt fr.wire (fr.wire.length - 1))) s = .next t ∧
      exec (.ofFrame fr) { s with rxb := [], cnt := { s.cnt with rxOk := (s.cnt.rxOk + 1) % 2 ^ 16 } } = .next t

/-- R130, R140: ENCODE returns the frame's bytes, or PayloadTooLarge, in one RESULT. -/
def Obligations.EncodeReturnsTheFrameOrPayloadTooLarge : Prop :=
  ∀ (cmdId reserved : Half) (sequence : Byte) (payload : List Byte) (s : State),
    let b := [0x55#8, BitVec.ofNat 8 (8 + payload.length), 0x00#8, loByte cmdId, hiByte cmdId, loByte reserved,
      hiByte reserved, sequence] ++ payload
    let c := checksum .crc16R b
    (payload.length ≤ 247 → exec (.encode cmdId reserved sequence payload) s =
      .next { s with out := s.out ++ [.result (.ok (.bytes (b ++ [loByte c, hiByte c])))] }) ∧
    (247 < payload.length → exec (.encode cmdId reserved sequence payload) s =
      .next { s with out := s.out ++ [.result (.err (.payloadTooLarge payload.length))] })

/-- R131, R132, R142: DECODE returns the first failing check in the order of R132, or the frame's fields, in one RESULT. -/
def Obligations.DecodeReturnsTheFirstErrorOrTheFrame : Prop :=
  ∀ (d : List Byte) (s : State),
    let answers (r : Res) : Prop := exec (.decode d) s = .next { s with out := s.out ++ [.result r] }
    let len := (byteAt d 1).toNat
    let stored := le16 d len
    let computed := checksum .crc16R (d.take len)
    (d.length < 10 → answers (.err (.decoding (.shortFrame d.length)))) ∧
    (10 ≤ d.length → byteAt d 0 ≠ 0x55#8 → answers (.err (.decoding (.badSync (byteAt d 0))))) ∧
    (10 ≤ d.length → byteAt d 0 = 0x55#8 → len < 8 ∨ d.length < len + 2 →
      answers (.err (.decoding (.lengthMismatch (byteAt d 1) d.length)))) ∧
    (byteAt d 0 = 0x55#8 → 8 ≤ len → len + 2 ≤ d.length → computed ≠ stored →
      answers (.err (.decoding (.checksumMismatch stored computed)))) ∧
    (byteAt d 0 = 0x55#8 → 8 ≤ len → len + 2 ≤ d.length → computed = stored →
      answers (.ok (.frame {
        flags := byteAt d 2, cmdId := le16 d 3, reserved := le16 d 5, sequence := byteAt d 7
        payload := (d.take len).drop 8, checksum := stored })))

/-- R144 with R120: CHECKSUM returns the loop's result; the loop starts at `0x3692` and takes each byte in eight rounds. -/
def Obligations.ChecksumReturnsTheCrcLoop : Prop :=
  (∀ (d : List Byte) (s : State),
    exec (.checksum d) s = .next { s with out := s.out ++ [.result (.ok (.num (crc 0xA001#16 d).toNat))] }) ∧
  crc 0xA001#16 [] = 0x3692#16 ∧
  (∀ (d : List Byte) (b : Byte), ∃ c : Nat → Half,
    c 0 = crc 0xA001#16 d ^^^ b.zeroExtend 16 ∧
    (∀ k, k < 8 → c (k + 1) = if (c k).getLsbD 0 then (c k >>> 1) ^^^ 0xA001#16 else c k >>> 1) ∧
    crc 0xA001#16 (d ++ [b]) = c 8)

/-- R122 (the spec's computed values): CHECKSUM on the check inputs, and the other constant's values. -/
def Obligations.ChecksumGivesTheCheckValues : Prop :=
  (∀ p ∈ ([([], 0x3692), ([0x00#8], 0xADB7), ([0x55#8], 0x9277), ([0xFF#8], 0xEDF7),
      ([0x31#8, 0x32#8, 0x33#8, 0x34#8, 0x35#8, 0x36#8, 0x37#8, 0x38#8, 0x39#8], 0xE30B)] : List (List Byte × Nat)),
    ∀ s : State, exec (.checksum p.1) s = .next { s with out := s.out ++ [.result (.ok (.num p.2))] }) ∧
  checksum .crc16R8005 [0x31#8, 0x32#8, 0x33#8, 0x34#8, 0x35#8, 0x36#8, 0x37#8, 0x38#8, 0x39#8] = 0xDF54#16

/-- R292 with R40: READ_REG of an assigned register returns the element that the map names, in every state the widths of R40
hold, and changes nothing but `OUT`; of any other number it is illegal. -/
def Obligations.ReadRegReturnsTheMappedElement : Prop :=
  (∀ s : State, s.BurstInv hw → s.RxbInv → s.CounterWidthInv hw →
    ∀ p ∈ ([(0x00#8,
        (match s.phase with | .disarmed => 0 | .arming => 1 | .armed => 2 | .disarming => 3) +
          (if s.phase = .arming ∨ s.phase = .armed then 4 else 0) + (if s.relPend then 8 else 0) +
          (if s.released then 16 else 0) + (if s.xerr then 32 else 0)),
        (0x01#8, s.burst), (0x02#8, s.counter.toNat), (0x03#8, s.txseq.toNat), (0x04#8, s.thr.t0.toNat),
        (0x05#8, s.thr.t1.toNat), (0x06#8, s.thr.t2.toNat), (0x07#8, s.thr.t3.toNat), (0x08#8, s.rxb.length),
        (0x10#8, s.cnt.rxOk), (0x11#8, s.cnt.resync), (0x12#8, s.cnt.badSync), (0x13#8, s.cnt.shortFrame),
        (0x14#8, s.cnt.lengthMismatch), (0x15#8, s.cnt.checksumMismatch), (0x16#8, s.cnt.truncated),
        (0x17#8, s.cnt.discard), (0x18#8, s.cnt.shortPayload), (0x19#8, s.cnt.ignored),
        (0x1A#8, s.cnt.illegal)] : List (Byte × Nat)),
      exec (.readReg p.1) s = .next { s with out := s.out ++ [.result (.ok (.num p.2))] }) ∧
  (∀ (r : Byte) (s : State), (0x09 ≤ r.toNat ∧ r.toNat ≤ 0x0F) ∨ 0x1B ≤ r.toNat →
    ∃ d, exec (.readReg r) s = .next { s with
      cnt := { s.cnt with illegal := (s.cnt.illegal + 1) % 2 ^ 16 }
      out := s.out ++ [.report (.illegalOp (some 0x30#8) d)] })

/-- R294: an illegal word and a READ_REG of an unassigned register are counted and reported, and change nothing else. The
report's detail is left open here: its form is the model's choice (log 9). -/
def Obligations.IllegalOperationsAreCountedAndReported : Prop :=
  (∀ (w : List Byte) (s : State), legalWord w = false →
    ∃ d, exec (.illegal w) s = .next { s with
      cnt := { s.cnt with illegal := (s.cnt.illegal + 1) % 2 ^ 16 }
      out := s.out ++ [.report (.illegalOp w.head? d)] }) ∧
  (∀ (r : Byte) (s : State), (0x09 ≤ r.toNat ∧ r.toNat ≤ 0x0F) ∨ 0x1B ≤ r.toNat →
    ∃ d, exec (.readReg r) s = .next { s with
      cnt := { s.cnt with illegal := (s.cnt.illegal + 1) % 2 ^ 16 }
      out := s.out ++ [.report (.illegalOp (some 0x30#8) d)] })

/-- R212: FRAME_A0D0 from 16 bytes of payload on: the eight values at offsets 0, 2, …, 14; below, SHORT_PAYLOAD (R216). -/
def Obligations.TelemetryFrameIsRoutedByItsLength : Prop :=
  ∀ (flags : Byte) (reserved : Half) (sequence : Byte) (p : List Byte) (cs : Half) (s : State),
    let fr : Frame := { flags, cmdId := 0xA0D0#16, reserved, sequence, payload := p, checksum := cs }
    (16 ≤ p.length → ∃ raw : Vector Half 8, (∀ i : Fin 8, raw[i] = le16 p (2 * i.val)) ∧
      exec (.frameA0d0 flags reserved sequence p cs) s = .next { s with out := s.out ++ [.rx fr (.telem sequence raw)] }) ∧
    (p.length < 16 → exec (.frameA0d0 flags reserved sequence p cs) s = .next { s with
      cnt := { s.cnt with shortPayload := (s.cnt.shortPayload + 1) % 2 ^ 16 }
      out := s.out ++ [.rx fr .shortPayload, .report (.shortPayload 0xA0D0#16 p.length 16)] })

/-- R214: FRAME_A021 from 26 bytes of payload on: the feedback fields, `armed` only for `0x80` (R88); below, SHORT_PAYLOAD. -/
def Obligations.FeedbackFrameIsRoutedByItsLength : Prop :=
  ∀ (flags : Byte) (reserved : Half) (sequence : Byte) (p : List Byte) (cs : Half) (s : State),
    let fr : Frame := { flags, cmdId := 0xA021#16, reserved, sequence, payload := p, checksum := cs }
    (26 ≤ p.length → ∃ armed : Bool, (armed = true ↔ byteAt p 15 = 0x80#8) ∧
      exec (.frameA021 flags reserved sequence p cs) s = .next { s with
        out := s.out ++ [.rx fr (.feedback sequence (le16 p 8) (byteAt p 15) armed (le16 p 16) (byteAt p 22))] }) ∧
    (p.length < 26 → exec (.frameA021 flags reserved sequence p cs) s = .next { s with
      cnt := { s.cnt with shortPayload := (s.cnt.shortPayload + 1) % 2 ^ 16 }
      out := s.out ++ [.rx fr .shortPayload, .report (.shortPayload 0xA021#16 p.length 26)] })

/-- R215: FRAME_OTHER is emitted with route OTHER, with no field split and no error. -/
def Obligations.OtherFrameIsEmittedOpaque : Prop :=
  ∀ (fr : Frame) (s : State), exec (.frameOther fr) s = .next { s with out := s.out ++ [.rx fr .other] }

/-- R211: the FRAME row performed for an accepted frame depends on `cmd_id` alone, and ROUTE is that row's meaning. -/
def Obligations.RouteDispatchesOnCmdIdAlone : Prop :=
  ∀ (fr : Frame) (s : State), exec (.ofFrame fr) s = .next (s.route hw fr) ∧
    (fr.cmdId = 0xA0D0#16 →
      Instr.ofFrame fr = .frameA0d0 fr.flags fr.reserved fr.sequence fr.payload fr.checksum) ∧
    (fr.cmdId = 0xA021#16 →
      Instr.ofFrame fr = .frameA021 fr.flags fr.reserved fr.sequence fr.payload fr.checksum) ∧
    (fr.cmdId ≠ 0xA0D0#16 → fr.cmdId ≠ 0xA021#16 → Instr.ofFrame fr = .frameOther fr)

/-- R296: a step takes the next word presented, decodes it and performs it; with no word it changes nothing (R340). How words
wait to be presented is the model's choice (log 5, log 6). -/
def Obligations.StepPerformsTheDecodedWord : Prop :=
  (∀ (i : Instr) (w : List Byte) (ws : List (List Byte)) (s : State),
    s.pending = w :: ws → decode w = i → i.wellFormed = true → step s = exec i { s with pending := ws }) ∧
  (∀ s : State, s.pending = [] → step s = .next s)

/-- The words of 30_encoding.md written out by hand decode to what R100 and R101 say. -/
def Obligations.WordsWrittenOutDecodeRight : Prop :=
  decode [0x01#8] = .reset ∧ decode [0x02#8] = .arm ∧ decode [0x07#8] = .tick ∧
  decode [0x04#8, 0xE8#8, 0x03#8, 0x4C#8, 0x04#8, 0xB0#8, 0x04#8, 0x14#8, 0x05#8] =
    .setThrottle 1000#16 1100#16 1200#16 1300#16 ∧
  decode [0x10#8, 0x55#8] = .rxByte 0x55#8 ∧
  decode [0x20#8, 0x34#8, 0x12#8, 0xCD#8, 0xAB#8, 0x7F#8, 0x02#8, 0xDE#8, 0xAD#8] =
    .encode 0x1234#16 0xABCD#16 0x7F#8 [0xDE#8, 0xAD#8] ∧
  decode [0x21#8, 0x02#8, 0x00#8, 0xAA#8, 0xBB#8] = .decode [0xAA#8, 0xBB#8] ∧
  decode [0x22#8, 0x00#8, 0x00#8] = .checksum [] ∧ decode [0x30#8, 0x09#8] = .readReg 0x09#8 ∧
  decode [0x02#8, 0x00#8] = .illegal [0x02#8, 0x00#8] ∧ decode [] = .illegal [] ∧ decode [0x00#8] = .illegal [0x00#8]

/-- R102: the illegal words are those whose opcode R100 does not list, those of another length, and the empty one; a step that
takes one counts and reports it, and changes nothing else. -/
def Obligations.IllegalWordsAreExactlyThoseNotListed : Prop :=
  (∀ w : List Byte, decode w = .illegal w ↔
    ¬ ((w.length = 1 ∧ byteAt w 0 ∈ [0x01#8, 0x02#8, 0x03#8, 0x05#8, 0x06#8, 0x07#8, 0x11#8]) ∨
       (w.length = 9 ∧ byteAt w 0 = 0x04#8) ∨
       (w.length = 2 ∧ byteAt w 0 ∈ [0x10#8, 0x30#8]) ∨
       (7 ≤ w.length ∧ w.length = 7 + (byteAt w 6).toNat ∧ byteAt w 0 = 0x20#8) ∨
       (3 ≤ w.length ∧ w.length = 3 + (le16 w 1).toNat ∧ byteAt w 0 ∈ [0x21#8, 0x22#8]))) ∧
  (∀ (w : List Byte) (ws : List (List Byte)) (s : State), s.pending = w :: ws → decode w = .illegal w →
    ∃ d, step s = .next { s with
      pending := ws
      cnt := { s.cnt with illegal := (s.cnt.illegal + 1) % 2 ^ 16 }
      out := s.out ++ [.report (.illegalOp w.head? d)] })

/-- Every host instruction at every operand its word can hold: decoding its word gives it back. -/
def Obligations.DecodeUndoesEncodeOfHostWords : Prop :=
  ∀ i : Instr, i.frame? = none → i.wellFormed = true → decode (encode i) = i

/-- Every word decodes to a well-formed host instruction whose word it is: no bit of a word is dropped, no word has two
instructions. -/
def Obligations.EncodeUndoesDecodeOfHostWords : Prop :=
  ∀ w : List Byte, (decode w).frame? = none ∧ (decode w).wellFormed = true ∧ encode (decode w) = w

/-- Every FRAME row at every operand the wire can carry: its wire bytes decode to it, whatever bytes follow them (R134). -/
def Obligations.WireDecodeUndoesFrameEncode : Prop :=
  ∀ (i : Instr) (fr : Frame) (tail : List Byte), i.frame? = some fr → i.wellFormed = true →
    decodeWire (encode i ++ tail) = .ok i

/-- R136 (the spec's own inference), for every value of `P_CHECKSUM_ALG`: decode undoes encode. -/
def Obligations.FrameDecodeUndoesFrameEncodeUnderEveryChecksum : Prop :=
  ∀ (alg : ChecksumAlg) (cmdId reserved : Half) (sequence : Byte) (payload : List Byte), payload.length ≤ 247 →
    ∃ (f : List Byte) (cs : Half), encodeFrame alg cmdId reserved sequence payload = .ok f ∧
      f.length = payload.length + 10 ∧
      decodeFrame alg f = .ok { flags := 0x00#8, cmdId, reserved, sequence, payload, checksum := cs }

/-- R138 (the spec's own inference, in part general knowledge): what DECODE answers to an encoded frame with one bit flipped. -/
def Obligations.SingleBitFlipsAreDetected : Prop :=
  ∀ (cmdId reserved : Half) (sequence : Byte) (payload : List Byte) (i b : Nat) (s : State),
    payload.length ≤ 247 → i < payload.length + 10 → b < 8 →
    let f := frameBytes .crc16R cmdId reserved sequence payload
    let f' := f.set i (byteAt f i ^^^ (1#8 <<< b))
    let answers (r : Res) : Prop := exec (.decode f') s = .next { s with out := s.out ++ [.result r] }
    let len' := (byteAt f' 1).toNat
    (i = 0 → answers (.err (.decoding (.badSync (byteAt f' 0))))) ∧
    (i = 1 → len' < 8 ∨ payload.length + 8 < len' →
      answers (.err (.decoding (.lengthMismatch (byteAt f' 1) f'.length)))) ∧
    (i = 1 → 8 ≤ len' → len' ≤ payload.length + 8 → checksum .crc16R (f'.take len') ≠ le16 f' len' →
      answers (.err (.decoding (.checksumMismatch (le16 f' len') (checksum .crc16R (f'.take len')))))) ∧
    (2 ≤ i → ∃ stored computed, answers (.err (.decoding (.checksumMismatch stored computed))))

/-- Every operation and every step goes on, and OUT only grows at its end (R36, R320; 93_implementation_defined.md). -/
def Obligations.EveryOperationGoesOnAndOnlyAppendsToOut : Prop :=
  (∀ (i : Instr) (s : State), ∃ (t : State) (rs : List Record), exec i s = .next t ∧ t.out = s.out ++ rs) ∧
  (∀ s : State, ∃ (t : State) (rs : List Record), step s = .next t ∧ t.out = s.out ++ rs)

/-- R311: no operation of the receiver, the codec or the host port but RESET changes the command state machine. -/
def Obligations.ReceivingAndCodecLeaveTheCommandState : Prop :=
  ∀ (i : Instr) (s t : State), schedulerOp i = false → i ≠ .reset → exec i s = .next t →
    s.sameCommand t ∧ t.pending = s.pending

/-- The scheduler's operations leave the receiver and every counter but CNT_IGNORED as they were (R244..R264). -/
def Obligations.SchedulerOperationsLeaveTheReceiver : Prop :=
  ∀ (i : Instr) (s t : State), schedulerOp i = true → exec i s = .next t →
    t.rxb = s.rxb ∧ t.pending = s.pending ∧ ∀ c : CounterName, c ≠ .ignored → t.cnt.get c = s.cnt.get c

/-- What RX_BYTE and RX_FLUSH emit, and what they leave of buffer and counters, depends on buffer and counters alone; what a
scheduler operation emits and leaves of the command state depends on the command state alone. -/
def Obligations.ReceiverAndSchedulerDoNotInterfere : Prop :=
  (∀ (i : Instr) (s₁ s₂ t₁ t₂ : State), ((∃ b, i = .rxByte b) ∨ i = .rxFlush) →
    s₁.rxb = s₂.rxb → s₁.cnt = s₂.cnt → exec i s₁ = .next t₁ → exec i s₂ = .next t₂ →
    t₁.rxb = t₂.rxb ∧ t₁.cnt = t₂.cnt ∧ ∃ rs : List Record, t₁.out = s₁.out ++ rs ∧ t₂.out = s₂.out ++ rs) ∧
  (∀ (i : Instr) (s₁ s₂ t₁ t₂ : State), schedulerOp i = true →
    s₁.sameCommand s₂ → exec i s₁ = .next t₁ → exec i s₂ = .next t₂ →
    t₁.sameCommand t₂ ∧ ∃ rs : List Record, t₁.out = s₁.out ++ rs ∧ t₂.out = s₂.out ++ rs)

/-- R25, R26, R242: only TICK transmits, at most one frame, never in Disarmed; COUNTER and TXSEQ step by one for each frame
sent and, RESET apart, for nothing else. -/
def Obligations.CountersStepOncePerTransmittedFrame : Prop :=
  ∀ (i : Instr) (s t : State), i ≠ .reset → exec i s = .next t →
    ∃ rs : List Record, t.out = s.out ++ rs ∧
      t.counter = s.counter + BitVec.ofNat 16 (txFrames rs).length ∧
      t.txseq = s.txseq + BitVec.ofNat 8 (txFrames rs).length ∧
      (txFrames rs).length ≤ 1 ∧
      (txFrames rs ≠ [] → i = .tick ∧ s.phase ≠ .disarmed ∧ s.released = false)

/-- R20: the throttle file is written only by SET_THROTTLE in Armed, with its operands, and by RESET, ARM and the entry to
Disarming, with the idle throttle. -/
def Obligations.ThrottleFileIsWrittenOnlyByItsRules : Prop :=
  ∀ (i : Instr) (s t : State), exec i s = .next t → t.thr ≠ s.thr →
    (∃ t0 t1 t2 t3, i = .setThrottle t0 t1 t2 t3 ∧ s.phase = .armed ∧ t.thr = ⟨t0, t1, t2, t3⟩) ∨
    ((i = .reset ∨ (i = .arm ∧ t.phase = .arming) ∨
        ((i = .disarm ∨ i = .abort ∨ i = .transportError) ∧ t.phase = .disarming)) ∧
      t.thr = hw.idleThrottle)

/-- R28, R264: once released, only RESET changes the command state, and nothing more is transmitted or released. -/
def Obligations.ReleasedStateIsLeftOnlyByReset : Prop :=
  ∀ (i : Instr) (s t : State), s.released = true → i ≠ .reset → exec i s = .next t →
    (∃ rs : List Record, t.out = s.out ++ rs ∧ rs.filter Record.onTransport = []) ∧ s.sameCommand t

/-- The power-on state meets every invariant below. -/
def Obligations.PowerOnStateMeetsTheInvariants : Prop := State.reset.Inv hw

/-- R23: every step keeps BURST below P_BURST_LEN, and at 0 in Disarmed and Armed. -/
def Obligations.EveryStepKeepsTheBurstInvariant : Prop :=
  ∀ s t : State, s.BurstInv hw → step s = .next t → t.BurstInv hw

/-- R30, R31: every step keeps the receive buffer empty or an incomplete candidate, of at most 256 bytes. -/
def Obligations.EveryStepKeepsTheReceiveBufferInvariant : Prop :=
  ∀ s t : State, s.RxbInv → step s = .next t → t.RxbInv ∧ t.rxb.length ≤ 256

/-- R32: every step keeps every diagnostic counter a number of P_CNT_W bits. -/
def Obligations.EveryStepKeepsTheCounterWidths : Prop :=
  ∀ s t : State, s.CounterWidthInv hw → step s = .next t → t.CounterWidthInv hw

/-- R167, R168 (the spec's own inferences): CNT_BAD_SYNC and CNT_LENGTH_MISMATCH stay 0 and CNT_RESYNC is the sum of its
causes, in every step. -/
def Obligations.EveryStepKeepsTheResyncAccount : Prop :=
  ∀ s t : State, s.ResyncInv hw → step s = .next t → t.ResyncInv hw

/-- R252, R254, R262: every step keeps the phase and the status bits in a legal combination. -/
def Obligations.EveryStepKeepsTheTeardownInvariant : Prop :=
  ∀ s t : State, s.TeardownInv → step s = .next t → t.TeardownInv

/-- R258 (the spec's own inference): ARM, then `k` TICKs: Arming before the fifth frame, Armed with it; `k` armed frames. -/
def Obligations.ArmingTakesExactlyFiveTicks : Prop :=
  ∀ (s : State) (k : Nat), s.released = false → s.phase = .disarmed → k ≤ 5 →
    ∃ (t : State) (rs : List Record), performAll (.arm :: List.replicate k .tick) s = .next t ∧
      t.out = s.out ++ rs ∧ (txFrames rs).length = k ∧ (∀ f ∈ txFrames rs, wireArm f = 0x80#8) ∧
      t.phase = (if k = 5 then .armed else .arming) ∧ t.burst = (if k = 5 then 0 else k)

/-- R260 (the spec's own inference): DISARM in Armed, then `k` TICKs: Disarmed with the fifth disarmed frame, and no release
unless one was pending. -/
def Obligations.DisarmingTakesExactlyFiveTicks : Prop :=
  ∀ (s : State) (k : Nat), s.released = false → s.phase = .armed → s.relPend = false → k ≤ 5 →
    ∃ (t : State) (rs : List Record), performAll (.disarm :: List.replicate k .tick) s = .next t ∧
      t.out = s.out ++ rs ∧ (txFrames rs).length = k ∧ (∀ f ∈ txFrames rs, wireArm f = 0x00#8) ∧
      t.phase = (if k = 5 then .disarmed else .disarming) ∧ t.released = false

/-- R266 (the spec's own inference): after ABORT or TRANSPORT_ERROR while arming or armed, whatever follows but RESET, only
disarmed frames are sent, one for each of the first five TICKs; the fifth is followed by RELEASED, and nothing is sent after
it. -/
def Obligations.TeardownSendsFiveDisarmedFramesThenReleases : Prop :=
  ∀ (i : Instr) (is : List Instr) (s t : State), i = .abort ∨ i = .transportError → s.released = false →
    s.phase = .arming ∨ s.phase = .armed → Instr.reset ∉ is → performAll (i :: is) s = .next t →
    ∃ (rs : List Record) (fs : List (List Byte)), t.out = s.out ++ rs ∧
      (∀ f ∈ fs, wireArm f = 0x00#8) ∧ fs.length = min 5 (is.count .tick) ∧
      ((fs.length < 5 ∧ rs.filter Record.onTransport = fs.map .tx) ∨
       (fs.length = 5 ∧ ∃ x, rs.filter Record.onTransport = fs.map .tx ++ [.released x]))

/-- R268 (the spec's own inference): the k-th frame sent after a RESET carries counter k mod 65536 and sequence k mod 256. -/
def Obligations.KthFrameSinceResetCarriesCounterK : Prop :=
  ∀ (is : List Instr) (s t : State), Instr.reset ∉ is → performAll (.reset :: is) s = .next t →
    ∃ rs : List Record, t.out = s.out ++ rs ∧
      ∀ (k : Nat) (f : List Byte), (txFrames rs)[k]? = some f →
        wireCounter f = BitVec.ofNat 16 k ∧ wireSequence f = BitVec.ofNat 8 k

/-- R174 (the spec's own inference): receiving bytes one at a time and flushing is the offline scan over all of them. -/
def Obligations.StreamThenFlushEqualsOfflineScan : Prop :=
  ∀ (d : List Byte) (s t : State), s.rxb = [] →
    (performAll (d.map .rxByte ++ [.rxFlush]) s = .next t ↔ exec .rxFlush { s with rxb := d } = .next t)

/-- R175 (the spec's own inference, with its condition): whole frames in garbage are all accepted, in order, and the
resynchronizations are at most the garbage bytes. -/
def Obligations.FramesInGarbageAreAllReceivedInOrder : Prop :=
  ∀ (d : List Byte) (frs : List Frame) (n : Nat) (s : State), FramesInGarbage .crc16R d frs n → s.rxb = [] →
    ∃ (t : State) (rs : List Record) (k : Nat), performAll (d.map .rxByte ++ [.rxFlush]) s = .next t ∧
      t.out = s.out ++ rs ∧ rxFrames rs = frs ∧ k ≤ n ∧ t.cnt.resync % 2 ^ 16 = (s.cnt.resync + k) % 2 ^ 16

/-- R318 item 3: words presented at once wait behind those presented before, in the order of R318, none lost and none added, and
nothing else changes. That an illegal word comes last is the model's choice (log 16), and so is the list they wait in (log 5). -/
def Obligations.WordsPresentedAtOnceAreSerialized : Prop :=
  (∀ ws : List (List Byte), (serialize ws).Perm ws ∧
    (serialize ws).Pairwise fun a b =>
      let order : List Byte := [0x01#8, 0x06#8, 0x05#8, 0x03#8, 0x02#8, 0x04#8, 0x07#8, 0x10#8, 0x11#8, 0x20#8, 0x21#8,
        0x22#8, 0x30#8]
      (legalWord a = true → legalWord b = true → order.idxOf (byteAt a 0) ≤ order.idxOf (byteAt b 0)) ∧
      (legalWord a = false → legalWord b = false)) ∧
  (∀ (s : State) (ws : List (List Byte)), s.presentTogether ws = { s with pending := s.pending ++ serialize ws }) ∧
  (∀ (s : State) (w : List Byte), s.present w = { s with pending := s.pending ++ [w] } ∧ s.presentTogether [w] = s.present w)
end

