-- ==== Sys2Proof/Laws/Operands.lean ====
section
/-! SUPPORT. Byte order and byte lists: reading back what was written (00_scope.md R9, R10). -/

namespace Sys2Proof

@[simp] theorem byteAt_nil (i : Nat) : byteAt [] i = 0#8 := rfl
@[simp] theorem byteAt_cons_zero (b : Byte) (d : List Byte) : byteAt (b :: d) 0 = b := rfl
@[simp] theorem byteAt_cons_succ (b : Byte) (d : List Byte) (i : Nat) : byteAt (b :: d) (i + 1) = byteAt d i := rfl

theorem byteAt_append_left {d e : List Byte} {i : Nat} (h : i < d.length) : byteAt (d ++ e) i = byteAt d i := by
  simp [byteAt, List.getElem?_append_left h]

theorem byteAt_append_right {d e : List Byte} {i : Nat} (h : d.length ≤ i) :
    byteAt (d ++ e) i = byteAt e (i - d.length) := by
  simp [byteAt, List.getElem?_append_right h]

theorem byteAt_take {d : List Byte} {n i : Nat} (h : i < n) : byteAt (d.take n) i = byteAt d i := by
  simp [byteAt, h]

@[simp] theorem le16bytes_length (v : Half) : (le16bytes v).length = 2 := rfl

/-- Little-endian assembly undoes the split into two bytes (R10). -/
@[simp] theorem ofLoHi_loByte_hiByte (v : Half) : ofLoHi (loByte v) (hiByte v) = v := by
  apply BitVec.eq_of_getLsbD_eq
  intro i hi
  simp only [ofLoHi, loByte, hiByte, BitVec.getLsbD_or, BitVec.getLsbD_setWidth, BitVec.getLsbD_shiftLeft,
    BitVec.getLsbD_ushiftRight]
  by_cases h : i < 8
  · simp [h, hi]
  · have h8 : i - 8 < 8 := by omega
    have e : 8 + (i - 8) = i := by omega
    have h16 : i - 8 < 16 := by omega
    simp [h, hi, h8, e, h16]

/-- And the split undoes the assembly. -/
@[simp] theorem loByte_ofLoHi (lo hi : Byte) : loByte (ofLoHi lo hi) = lo := by
  apply BitVec.eq_of_getLsbD_eq
  intro i h
  simp [ofLoHi, loByte, h]

@[simp] theorem hiByte_ofLoHi (lo hi : Byte) : hiByte (ofLoHi lo hi) = hi := by
  apply BitVec.eq_of_getLsbD_eq
  intro i h
  have h16 : 8 + i < 16 := by omega
  have h16' : i < 16 := by omega
  simp [ofLoHi, hiByte, h, h16, h16']

/-- `le16` reads back `le16bytes` at the place it stands. -/
theorem le16_append (d e : List Byte) (v : Half) : le16 (d ++ (le16bytes v ++ e)) d.length = v := by
  unfold le16
  rw [byteAt_append_right (Nat.le_refl _), byteAt_append_right (Nat.le_succ _)]
  simp [le16bytes]

theorem le16_take {d : List Byte} {n i : Nat} (h : i + 1 < n) : le16 (d.take n) i = le16 d i := by
  unfold le16; rw [byteAt_take (by omega), byteAt_take h]

theorem le16_append_left {d e : List Byte} {i : Nat} (h : i + 1 < d.length) : le16 (d ++ e) i = le16 d i := by
  unfold le16; rw [byteAt_append_left (by omega), byteAt_append_left h]

end Sys2Proof
end

