-- ==== Sys2Proof/Laws/Codec.lean ====
section
/-! SUPPORT. The codec: lengths of what it builds, and what an answer of `decodeFrame` says (40_codec.md R130..R134). -/

namespace Sys2Proof

open Machine (DecodeError)

@[simp] theorem frameBody_length (flags : Byte) (cmdId reserved : Half) (sequence : Byte) (payload : List Byte) :
    (frameBody flags cmdId reserved sequence payload).length = 8 + payload.length := by
  simp [frameBody]; omega

@[simp] theorem frameBytes_length (alg : ChecksumAlg) (cmdId reserved : Half) (sequence : Byte) (payload : List Byte) :
    (frameBytes alg cmdId reserved sequence payload).length = 10 + payload.length := by
  simp [frameBytes]; omega

@[simp] theorem Frame.wire_length (fr : Frame) : fr.wire.length = 10 + fr.payload.length := by
  simp [Frame.wire]; omega

/-- The length byte counts every byte after itself, and fits (30_encoding.md R81). -/
theorem lengthByte_toNat {payload : List Byte} (h : payload.length ≤ maxPayload) :
    (lengthByte payload).toNat = 8 + payload.length := by
  have h' : payload.length ≤ 247 := h
  simp [lengthByte, hdrLen]; omega

/-- The loop of R120 goes byte by byte, the last byte last. -/
theorem crc_append_singleton (poly : Half) (d : List Byte) (b : Byte) :
    crc poly (d ++ [b]) = crcByte poly (crc poly d) b := by simp [crc]

/-- The bytes `encode` builds are those of a frame record with zero flags. -/
theorem frameBytes_eq_wire (alg : ChecksumAlg) (cmdId reserved : Half) (sequence : Byte) (payload : List Byte) :
    frameBytes alg cmdId reserved sequence payload =
      Frame.wire { flags := txFlags, cmdId, reserved, sequence, payload
                   checksum := checksum alg (frameBody txFlags cmdId reserved sequence payload) } := rfl

/-- What each answer of `decodeFrame` says of the bytes, in the order of R132. -/
theorem decodeFrame_cases (alg : ChecksumAlg) (d : List Byte) :
    (d.length < 10 ∧ decodeFrame alg d = .error (.shortFrame d.length)) ∨
    (10 ≤ d.length ∧ byteAt d 0 ≠ sync ∧ decodeFrame alg d = .error (.badSync (byteAt d 0))) ∨
    (10 ≤ d.length ∧ byteAt d 0 = sync ∧ ((byteAt d 1).toNat < 8 ∨ d.length < (byteAt d 1).toNat + 2) ∧
      decodeFrame alg d = .error (.lengthMismatch (byteAt d 1) d.length)) ∨
    (10 ≤ d.length ∧ byteAt d 0 = sync ∧ 8 ≤ (byteAt d 1).toNat ∧ (byteAt d 1).toNat + 2 ≤ d.length ∧
      checksum alg (d.take (byteAt d 1).toNat) ≠ le16 d (byteAt d 1).toNat ∧
      decodeFrame alg d = .error (.checksumMismatch (le16 d (byteAt d 1).toNat)
        (checksum alg (d.take (byteAt d 1).toNat)))) ∨
    (10 ≤ d.length ∧ byteAt d 0 = sync ∧ 8 ≤ (byteAt d 1).toNat ∧ (byteAt d 1).toNat + 2 ≤ d.length ∧
      checksum alg (d.take (byteAt d 1).toNat) = le16 d (byteAt d 1).toNat ∧
      decodeFrame alg d = .ok {
        flags := byteAt d 2, cmdId := le16 d 3, reserved := le16 d 5, sequence := byteAt d 7
        payload := slice d 8 (byteAt d 1).toNat, checksum := le16 d (byteAt d 1).toNat }) := by
  by_cases h1 : d.length < 10
  · exact .inl ⟨h1, by simp [decodeFrame, h1]⟩
  refine .inr ?_
  by_cases h2 : byteAt d 0 = sync
  · refine .inr ?_
    by_cases h3 : (byteAt d 1).toNat < 8 ∨ d.length < (byteAt d 1).toNat + 2
    · exact .inl ⟨by omega, h2, h3, by simp only [decodeFrame, h1, h2, h3]; simp⟩
    refine .inr ?_
    by_cases h4 : checksum alg (d.take (byteAt d 1).toNat) = le16 d (byteAt d 1).toNat
    · exact .inr ⟨by omega, h2, by omega, by omega, h4, by simp only [decodeFrame, h1, h2, h3, h4]; simp⟩
    · exact .inl ⟨by omega, h2, by omega, by omega, h4, by simp only [decodeFrame, h1, h2, h3]; simp [h4]⟩
  · exact .inl ⟨by omega, h2, by simp only [decodeFrame, h1]; simp [h2]⟩

/-- A candidate of the synchronizer starts with the sync byte and is exactly as long as its length byte says; so of the four
errors only two can come of it (41_framer.md R167). -/
theorem decodeFrame_candidate {alg : ChecksumAlg} {d : List Byte} {e : DecodeError} (hs : byteAt d 0 = sync)
    (hl : d.length = (byteAt d 1).toNat + 2) (h : decodeFrame alg d = .error e) :
    e.counter = .shortFrame ∨ e.counter = .checksumMismatch := by
  rcases decodeFrame_cases alg d with ⟨_, h'⟩ | ⟨_, hn, _⟩ | ⟨_, _, hn, _⟩ | ⟨_, _, _, _, _, h'⟩ | ⟨_, _, _, _, _, h'⟩
  · rw [h] at h'; cases h'; exact .inl rfl
  · exact absurd hs hn
  · omega
  · rw [h] at h'; cases h'; exact .inr rfl
  · rw [h] at h'; cases h'

end Sys2Proof
end

