-- ==== Sys2Proof/Laws/State.lean ====
section
/-! SUPPORT. One lemma per field for each named update of the state, so that no proof unfolds a record update. -/

namespace Sys2Proof.Machine

section emit

variable (s : State) (o : Record)

@[simp] theorem State.emit_thr : (s.emit o).thr = s.thr := rfl
@[simp] theorem State.emit_phase : (s.emit o).phase = s.phase := rfl
@[simp] theorem State.emit_burst : (s.emit o).burst = s.burst := rfl
@[simp] theorem State.emit_counter : (s.emit o).counter = s.counter := rfl
@[simp] theorem State.emit_txseq : (s.emit o).txseq = s.txseq := rfl
@[simp] theorem State.emit_relPend : (s.emit o).relPend = s.relPend := rfl
@[simp] theorem State.emit_released : (s.emit o).released = s.released := rfl
@[simp] theorem State.emit_xerr : (s.emit o).xerr = s.xerr := rfl
@[simp] theorem State.emit_rxb : (s.emit o).rxb = s.rxb := rfl
@[simp] theorem State.emit_cnt : (s.emit o).cnt = s.cnt := rfl
@[simp] theorem State.emit_out : (s.emit o).out = s.out ++ [o] := rfl
@[simp] theorem State.emit_pending : (s.emit o).pending = s.pending := rfl

end emit

section count

variable (P : Params) (s : State) (c : CounterName)

@[simp] theorem State.count_thr : (s.count P c).thr = s.thr := rfl
@[simp] theorem State.count_phase : (s.count P c).phase = s.phase := rfl
@[simp] theorem State.count_burst : (s.count P c).burst = s.burst := rfl
@[simp] theorem State.count_counter : (s.count P c).counter = s.counter := rfl
@[simp] theorem State.count_txseq : (s.count P c).txseq = s.txseq := rfl
@[simp] theorem State.count_relPend : (s.count P c).relPend = s.relPend := rfl
@[simp] theorem State.count_released : (s.count P c).released = s.released := rfl
@[simp] theorem State.count_xerr : (s.count P c).xerr = s.xerr := rfl
@[simp] theorem State.count_rxb : (s.count P c).rxb = s.rxb := rfl
@[simp] theorem State.count_cnt : (s.count P c).cnt = s.cnt.bump P c := rfl
@[simp] theorem State.count_out : (s.count P c).out = s.out := rfl
@[simp] theorem State.count_pending : (s.count P c).pending = s.pending := rfl

end count

section dropRx

variable (s : State) (n : Nat)

@[simp] theorem State.dropRx_thr : (s.dropRx n).thr = s.thr := rfl
@[simp] theorem State.dropRx_phase : (s.dropRx n).phase = s.phase := rfl
@[simp] theorem State.dropRx_burst : (s.dropRx n).burst = s.burst := rfl
@[simp] theorem State.dropRx_counter : (s.dropRx n).counter = s.counter := rfl
@[simp] theorem State.dropRx_txseq : (s.dropRx n).txseq = s.txseq := rfl
@[simp] theorem State.dropRx_relPend : (s.dropRx n).relPend = s.relPend := rfl
@[simp] theorem State.dropRx_released : (s.dropRx n).released = s.released := rfl
@[simp] theorem State.dropRx_xerr : (s.dropRx n).xerr = s.xerr := rfl
@[simp] theorem State.dropRx_rxb : (s.dropRx n).rxb = s.rxb.drop n := rfl
@[simp] theorem State.dropRx_cnt : (s.dropRx n).cnt = s.cnt := rfl
@[simp] theorem State.dropRx_out : (s.dropRx n).out = s.out := rfl
@[simp] theorem State.dropRx_pending : (s.dropRx n).pending = s.pending := rfl

end dropRx

section pushRx

variable (s : State) (b : Byte)

@[simp] theorem State.pushRx_thr : (s.pushRx b).thr = s.thr := rfl
@[simp] theorem State.pushRx_phase : (s.pushRx b).phase = s.phase := rfl
@[simp] theorem State.pushRx_burst : (s.pushRx b).burst = s.burst := rfl
@[simp] theorem State.pushRx_counter : (s.pushRx b).counter = s.counter := rfl
@[simp] theorem State.pushRx_txseq : (s.pushRx b).txseq = s.txseq := rfl
@[simp] theorem State.pushRx_relPend : (s.pushRx b).relPend = s.relPend := rfl
@[simp] theorem State.pushRx_released : (s.pushRx b).released = s.released := rfl
@[simp] theorem State.pushRx_xerr : (s.pushRx b).xerr = s.xerr := rfl
@[simp] theorem State.pushRx_rxb : (s.pushRx b).rxb = s.rxb ++ [b] := rfl
@[simp] theorem State.pushRx_cnt : (s.pushRx b).cnt = s.cnt := rfl
@[simp] theorem State.pushRx_out : (s.pushRx b).out = s.out := rfl
@[simp] theorem State.pushRx_pending : (s.pushRx b).pending = s.pending := rfl

end pushRx

section enterDisarming

variable (P : Params) (s : State)

@[simp] theorem State.enterDisarming_thr : (s.enterDisarming P).thr = P.idleThrottle := rfl
@[simp] theorem State.enterDisarming_phase : (s.enterDisarming P).phase = .disarming := rfl
@[simp] theorem State.enterDisarming_burst : (s.enterDisarming P).burst = 0 := rfl
@[simp] theorem State.enterDisarming_counter : (s.enterDisarming P).counter = s.counter := rfl
@[simp] theorem State.enterDisarming_txseq : (s.enterDisarming P).txseq = s.txseq := rfl
@[simp] theorem State.enterDisarming_relPend : (s.enterDisarming P).relPend = s.relPend := rfl
@[simp] theorem State.enterDisarming_released : (s.enterDisarming P).released = s.released := rfl
@[simp] theorem State.enterDisarming_xerr : (s.enterDisarming P).xerr = s.xerr := rfl
@[simp] theorem State.enterDisarming_rxb : (s.enterDisarming P).rxb = s.rxb := rfl
@[simp] theorem State.enterDisarming_cnt : (s.enterDisarming P).cnt = s.cnt := rfl
@[simp] theorem State.enterDisarming_out : (s.enterDisarming P).out = s.out := rfl
@[simp] theorem State.enterDisarming_pending : (s.enterDisarming P).pending = s.pending := rfl

end enterDisarming

section ignore

variable (P : Params) (s : State) (op : Byte)

@[simp] theorem State.ignore_thr : (s.ignore P op).thr = s.thr := rfl
@[simp] theorem State.ignore_phase : (s.ignore P op).phase = s.phase := rfl
@[simp] theorem State.ignore_burst : (s.ignore P op).burst = s.burst := rfl
@[simp] theorem State.ignore_counter : (s.ignore P op).counter = s.counter := rfl
@[simp] theorem State.ignore_txseq : (s.ignore P op).txseq = s.txseq := rfl
@[simp] theorem State.ignore_relPend : (s.ignore P op).relPend = s.relPend := rfl
@[simp] theorem State.ignore_released : (s.ignore P op).released = s.released := rfl
@[simp] theorem State.ignore_xerr : (s.ignore P op).xerr = s.xerr := rfl
@[simp] theorem State.ignore_rxb : (s.ignore P op).rxb = s.rxb := rfl
@[simp] theorem State.ignore_cnt : (s.ignore P op).cnt = s.cnt.bump P .ignored := rfl
@[simp] theorem State.ignore_out : (s.ignore P op).out = s.out ++ [.report (.opIgnored op s.phase s.released)] := rfl
@[simp] theorem State.ignore_pending : (s.ignore P op).pending = s.pending := rfl

end ignore

section illegalOp

variable (P : Params) (s : State) (oc : Option Byte) (d : Option IllegalDetail)

@[simp] theorem State.illegalOp_thr : (s.illegalOp P oc d).thr = s.thr := rfl
@[simp] theorem State.illegalOp_phase : (s.illegalOp P oc d).phase = s.phase := rfl
@[simp] theorem State.illegalOp_burst : (s.illegalOp P oc d).burst = s.burst := rfl
@[simp] theorem State.illegalOp_counter : (s.illegalOp P oc d).counter = s.counter := rfl
@[simp] theorem State.illegalOp_txseq : (s.illegalOp P oc d).txseq = s.txseq := rfl
@[simp] theorem State.illegalOp_relPend : (s.illegalOp P oc d).relPend = s.relPend := rfl
@[simp] theorem State.illegalOp_released : (s.illegalOp P oc d).released = s.released := rfl
@[simp] theorem State.illegalOp_xerr : (s.illegalOp P oc d).xerr = s.xerr := rfl
@[simp] theorem State.illegalOp_rxb : (s.illegalOp P oc d).rxb = s.rxb := rfl
@[simp] theorem State.illegalOp_cnt : (s.illegalOp P oc d).cnt = s.cnt.bump P .illegal := rfl
@[simp] theorem State.illegalOp_out : (s.illegalOp P oc d).out = s.out ++ [.report (.illegalOp oc d)] := rfl
@[simp] theorem State.illegalOp_pending : (s.illegalOp P oc d).pending = s.pending := rfl

end illegalOp

section shortPayload

variable (P : Params) (s : State) (fr : Frame) (need : Nat)

@[simp] theorem State.shortPayload_thr : (s.shortPayload P fr need).thr = s.thr := rfl
@[simp] theorem State.shortPayload_phase : (s.shortPayload P fr need).phase = s.phase := rfl
@[simp] theorem State.shortPayload_burst : (s.shortPayload P fr need).burst = s.burst := rfl
@[simp] theorem State.shortPayload_counter : (s.shortPayload P fr need).counter = s.counter := rfl
@[simp] theorem State.shortPayload_txseq : (s.shortPayload P fr need).txseq = s.txseq := rfl
@[simp] theorem State.shortPayload_relPend : (s.shortPayload P fr need).relPend = s.relPend := rfl
@[simp] theorem State.shortPayload_released : (s.shortPayload P fr need).released = s.released := rfl
@[simp] theorem State.shortPayload_xerr : (s.shortPayload P fr need).xerr = s.xerr := rfl
@[simp] theorem State.shortPayload_rxb : (s.shortPayload P fr need).rxb = s.rxb := rfl
@[simp] theorem State.shortPayload_cnt : (s.shortPayload P fr need).cnt = s.cnt.bump P .shortPayload := rfl
@[simp] theorem State.shortPayload_out : (s.shortPayload P fr need).out = (s.out ++ [.rx fr .shortPayload]) ++ [.report (.shortPayload fr.cmdId fr.payload.length need)] := rfl
@[simp] theorem State.shortPayload_pending : (s.shortPayload P fr need).pending = s.pending := rfl

end shortPayload

section routeOther

variable (s : State) (fr : Frame)

@[simp] theorem State.routeOther_thr : (s.routeOther fr).thr = s.thr := rfl
@[simp] theorem State.routeOther_phase : (s.routeOther fr).phase = s.phase := rfl
@[simp] theorem State.routeOther_burst : (s.routeOther fr).burst = s.burst := rfl
@[simp] theorem State.routeOther_counter : (s.routeOther fr).counter = s.counter := rfl
@[simp] theorem State.routeOther_txseq : (s.routeOther fr).txseq = s.txseq := rfl
@[simp] theorem State.routeOther_relPend : (s.routeOther fr).relPend = s.relPend := rfl
@[simp] theorem State.routeOther_released : (s.routeOther fr).released = s.released := rfl
@[simp] theorem State.routeOther_xerr : (s.routeOther fr).xerr = s.xerr := rfl
@[simp] theorem State.routeOther_rxb : (s.routeOther fr).rxb = s.rxb := rfl
@[simp] theorem State.routeOther_cnt : (s.routeOther fr).cnt = s.cnt := rfl
@[simp] theorem State.routeOther_out : (s.routeOther fr).out = s.out ++ [.rx fr .other] := rfl
@[simp] theorem State.routeOther_pending : (s.routeOther fr).pending = s.pending := rfl

end routeOther

section truncated

variable (P : Params) (s : State)

@[simp] theorem State.truncated_thr : (s.truncated P).thr = s.thr := rfl
@[simp] theorem State.truncated_phase : (s.truncated P).phase = s.phase := rfl
@[simp] theorem State.truncated_burst : (s.truncated P).burst = s.burst := rfl
@[simp] theorem State.truncated_counter : (s.truncated P).counter = s.counter := rfl
@[simp] theorem State.truncated_txseq : (s.truncated P).txseq = s.txseq := rfl
@[simp] theorem State.truncated_relPend : (s.truncated P).relPend = s.relPend := rfl
@[simp] theorem State.truncated_released : (s.truncated P).released = s.released := rfl
@[simp] theorem State.truncated_xerr : (s.truncated P).xerr = s.xerr := rfl
@[simp] theorem State.truncated_rxb : (s.truncated P).rxb = s.rxb.drop 1 := rfl
@[simp] theorem State.truncated_cnt : (s.truncated P).cnt = (s.cnt.bump P .truncated).bump P .resync := rfl
@[simp] theorem State.truncated_out : (s.truncated P).out = s.out ++ [.report (.truncated s.rxb.length (if 2 ≤ s.rxb.length then some (byteAt s.rxb 1) else none))] := rfl
@[simp] theorem State.truncated_pending : (s.truncated P).pending = s.pending := rfl

end truncated

section rejectCandidate

variable (P : Params) (s : State) (e : DecodeError)

@[simp] theorem State.rejectCandidate_thr : (s.rejectCandidate P e).thr = s.thr := rfl
@[simp] theorem State.rejectCandidate_phase : (s.rejectCandidate P e).phase = s.phase := rfl
@[simp] theorem State.rejectCandidate_burst : (s.rejectCandidate P e).burst = s.burst := rfl
@[simp] theorem State.rejectCandidate_counter : (s.rejectCandidate P e).counter = s.counter := rfl
@[simp] theorem State.rejectCandidate_txseq : (s.rejectCandidate P e).txseq = s.txseq := rfl
@[simp] theorem State.rejectCandidate_relPend : (s.rejectCandidate P e).relPend = s.relPend := rfl
@[simp] theorem State.rejectCandidate_released : (s.rejectCandidate P e).released = s.released := rfl
@[simp] theorem State.rejectCandidate_xerr : (s.rejectCandidate P e).xerr = s.xerr := rfl
@[simp] theorem State.rejectCandidate_rxb : (s.rejectCandidate P e).rxb = s.rxb.drop 1 := rfl
@[simp] theorem State.rejectCandidate_cnt : (s.rejectCandidate P e).cnt = (s.cnt.bump P e.counter).bump P .resync := rfl
@[simp] theorem State.rejectCandidate_out : (s.rejectCandidate P e).out = s.out ++ [.report (.decoding e)] := rfl
@[simp] theorem State.rejectCandidate_pending : (s.rejectCandidate P e).pending = s.pending := rfl

end rejectCandidate

section sendFrame

variable (P : Params) (s : State)

@[simp] theorem State.sendFrame_thr : (s.sendFrame P).thr = s.thr := rfl
@[simp] theorem State.sendFrame_phase : (s.sendFrame P).phase = s.phase := rfl
@[simp] theorem State.sendFrame_burst : (s.sendFrame P).burst = s.burst := rfl
@[simp] theorem State.sendFrame_counter : (s.sendFrame P).counter = s.counter + 1 := rfl
@[simp] theorem State.sendFrame_txseq : (s.sendFrame P).txseq = s.txseq + 1 := rfl
@[simp] theorem State.sendFrame_relPend : (s.sendFrame P).relPend = s.relPend := rfl
@[simp] theorem State.sendFrame_released : (s.sendFrame P).released = s.released := rfl
@[simp] theorem State.sendFrame_xerr : (s.sendFrame P).xerr = s.xerr := rfl
@[simp] theorem State.sendFrame_rxb : (s.sendFrame P).rxb = s.rxb := rfl
@[simp] theorem State.sendFrame_cnt : (s.sendFrame P).cnt = s.cnt := rfl
@[simp] theorem State.sendFrame_out : (s.sendFrame P).out = s.out ++ [.tx (s.commandFrame P)] := rfl
@[simp] theorem State.sendFrame_pending : (s.sendFrame P).pending = s.pending := rfl

end sendFrame

section toReset

variable (P : Params) (s : State)

@[simp] theorem State.toReset_thr : (s.toReset P).thr = P.idleThrottle := rfl
@[simp] theorem State.toReset_phase : (s.toReset P).phase = .disarmed := rfl
@[simp] theorem State.toReset_burst : (s.toReset P).burst = 0 := rfl
@[simp] theorem State.toReset_counter : (s.toReset P).counter = 0x0000#16 := rfl
@[simp] theorem State.toReset_txseq : (s.toReset P).txseq = 0x00#8 := rfl
@[simp] theorem State.toReset_relPend : (s.toReset P).relPend = false := rfl
@[simp] theorem State.toReset_released : (s.toReset P).released = false := rfl
@[simp] theorem State.toReset_xerr : (s.toReset P).xerr = false := rfl
@[simp] theorem State.toReset_rxb : (s.toReset P).rxb = [] := rfl
@[simp] theorem State.toReset_cnt : (s.toReset P).cnt = {} := rfl
@[simp] theorem State.toReset_out : (s.toReset P).out = s.out := rfl
@[simp] theorem State.toReset_pending : (s.toReset P).pending = s.pending := rfl

end toReset

section release

variable (s : State)

@[simp] theorem State.release_thr : s.release.thr = s.thr := by cases h : s.xerr <;> simp [State.release, h]
@[simp] theorem State.release_phase : s.release.phase = s.phase := by cases h : s.xerr <;> simp [State.release, h]
@[simp] theorem State.release_burst : s.release.burst = s.burst := by cases h : s.xerr <;> simp [State.release, h]
@[simp] theorem State.release_counter : s.release.counter = s.counter := by cases h : s.xerr <;> simp [State.release, h]
@[simp] theorem State.release_txseq : s.release.txseq = s.txseq := by cases h : s.xerr <;> simp [State.release, h]
@[simp] theorem State.release_relPend : s.release.relPend = false := by cases h : s.xerr <;> simp [State.release, h]
@[simp] theorem State.release_released : s.release.released = true := by cases h : s.xerr <;> simp [State.release, h]
@[simp] theorem State.release_xerr : s.release.xerr = s.xerr := by cases h : s.xerr <;> simp [State.release, h]
@[simp] theorem State.release_rxb : s.release.rxb = s.rxb := by cases h : s.xerr <;> simp [State.release, h]
@[simp] theorem State.release_cnt : s.release.cnt = s.cnt := by cases h : s.xerr <;> simp [State.release, h]
@[simp] theorem State.release_pending : s.release.pending = s.pending := by cases h : s.xerr <;> simp [State.release, h]

/-- RELEASE emits RELEASED last, after the report of a transport error (R262). -/
@[simp] theorem State.release_out :
    s.release.out = s.out ++ ((if s.xerr then [.report .transportIOError] else []) ++ [.released s.xerr]) := by
  cases h : s.xerr <;> simp [State.release, State.emit, h]

end release

section present

variable (s : State) (w : List Byte) (ws : List (List Byte))

@[simp] theorem State.present_pending : (s.present w).pending = s.pending ++ [w] := rfl
@[simp] theorem State.present_thr : (s.present w).thr = s.thr := rfl
@[simp] theorem State.present_phase : (s.present w).phase = s.phase := rfl
@[simp] theorem State.present_burst : (s.present w).burst = s.burst := rfl
@[simp] theorem State.present_counter : (s.present w).counter = s.counter := rfl
@[simp] theorem State.present_txseq : (s.present w).txseq = s.txseq := rfl
@[simp] theorem State.present_relPend : (s.present w).relPend = s.relPend := rfl
@[simp] theorem State.present_released : (s.present w).released = s.released := rfl
@[simp] theorem State.present_xerr : (s.present w).xerr = s.xerr := rfl
@[simp] theorem State.present_rxb : (s.present w).rxb = s.rxb := rfl
@[simp] theorem State.present_cnt : (s.present w).cnt = s.cnt := rfl
@[simp] theorem State.present_out : (s.present w).out = s.out := rfl
@[simp] theorem State.presentTogether_pending : (s.presentTogether ws).pending = s.pending ++ serialize ws := rfl
@[simp] theorem State.presentTogether_thr : (s.presentTogether ws).thr = s.thr := rfl
@[simp] theorem State.presentTogether_phase : (s.presentTogether ws).phase = s.phase := rfl
@[simp] theorem State.presentTogether_burst : (s.presentTogether ws).burst = s.burst := rfl
@[simp] theorem State.presentTogether_counter : (s.presentTogether ws).counter = s.counter := rfl
@[simp] theorem State.presentTogether_txseq : (s.presentTogether ws).txseq = s.txseq := rfl
@[simp] theorem State.presentTogether_relPend : (s.presentTogether ws).relPend = s.relPend := rfl
@[simp] theorem State.presentTogether_released : (s.presentTogether ws).released = s.released := rfl
@[simp] theorem State.presentTogether_xerr : (s.presentTogether ws).xerr = s.xerr := rfl
@[simp] theorem State.presentTogether_rxb : (s.presentTogether ws).rxb = s.rxb := rfl
@[simp] theorem State.presentTogether_cnt : (s.presentTogether ws).cnt = s.cnt := rfl
@[simp] theorem State.presentTogether_out : (s.presentTogether ws).out = s.out := rfl

end present

end Sys2Proof.Machine
end

