-- ==== Sys2Proof/Laws/Counters.lean ====
section
/-! SUPPORT. The diagnostic counters: what one increment does to each (10_state.md R32). -/

namespace Sys2Proof.Machine

/-- An increment changes the counter it names and no other. -/
theorem Counters.get_bump (P : Params) (k : Counters) (c d : CounterName) :
    (k.bump P c).get d = if d = c then countUp P (k.get c) else k.get d := by
  cases c <;> cases d <;> rfl

@[simp] theorem Counters.get_bump_self (P : Params) (k : Counters) (c : CounterName) :
    (k.bump P c).get c = countUp P (k.get c) := by simp [Counters.get_bump]

theorem Counters.get_bump_of_ne (P : Params) (k : Counters) {c d : CounterName} (h : d ≠ c) :
    (k.bump P c).get d = k.get d := by simp [Counters.get_bump, h]

theorem countUp_lt (P : Params) (n : Nat) : countUp P n < 2 ^ P.cntW :=
  Nat.mod_lt _ (Nat.two_pow_pos _)

/-- The counters that the scan leaves after a rejection are those of R165 written out. -/
theorem countRejection_eq_bump (P : Params) (k : Counters) (e : DecodeError) :
    countRejection P k e = (k.bump P e.counter).bump P .resync := by cases e <;> rfl

/-- An increment keeps every counter in its width. -/
theorem Counters.bump_width {P : Params} {k : Counters} (h : ∀ c, k.get c < 2 ^ P.cntW) (c d : CounterName) :
    (k.bump P c).get d < 2 ^ P.cntW := by
  rw [Counters.get_bump]; split
  · exact countUp_lt P _
  · exact h d

/-- Counters with the same value under every name are the same. -/
theorem Counters.ext_get {k l : Counters} (h : ∀ c, k.get c = l.get c) : k = l := by
  cases k; cases l
  have h1 := h .rxOk; have h2 := h .resync; have h3 := h .badSync; have h4 := h .shortFrame
  have h5 := h .lengthMismatch; have h6 := h .checksumMismatch; have h7 := h .truncated
  have h8 := h .discard; have h9 := h .shortPayload; have h10 := h .ignored; have h11 := h .illegal
  simp only [Counters.get] at *
  subst_vars; rfl

end Sys2Proof.Machine
end

