-- ==== Sys2Proof/Laws/Framer.lean ====
section
/-! SUPPORT. The synchronizer and the router: what one pass of the scan can do, that each pass that goes round again removes a
byte (41_framer.md R169), and hence the scan's own equation without a bound on its passes. -/

namespace Sys2Proof.Machine

/-- ROUTE touches nothing but CNT_SHORT_PAYLOAD and OUT, and emits exactly one RX record, of that frame (R210, R216). -/
theorem State.route_cases (P : Params) (s : State) (fr : Frame) :
    (∃ r, s.route P fr = s.emit (.rx fr r)) ∨ (∃ need, s.route P fr = s.shortPayload P fr need) := by
  unfold State.route State.routeTelem State.routeFeedback
  split
  · split
    · exact .inr ⟨_, rfl⟩
    · exact .inl ⟨_, rfl⟩
  · split
    · split
      · exact .inr ⟨_, rfl⟩
      · exact .inl ⟨_, rfl⟩
    · exact .inl ⟨_, rfl⟩

section route

variable (P : Params) (s : State) (fr : Frame)

@[simp] theorem State.route_thr : (s.route P fr).thr = s.thr := by
  rcases s.route_cases P fr with ⟨_, h⟩ | ⟨_, h⟩ <;> simp [h]
@[simp] theorem State.route_phase : (s.route P fr).phase = s.phase := by
  rcases s.route_cases P fr with ⟨_, h⟩ | ⟨_, h⟩ <;> simp [h]
@[simp] theorem State.route_burst : (s.route P fr).burst = s.burst := by
  rcases s.route_cases P fr with ⟨_, h⟩ | ⟨_, h⟩ <;> simp [h]
@[simp] theorem State.route_counter : (s.route P fr).counter = s.counter := by
  rcases s.route_cases P fr with ⟨_, h⟩ | ⟨_, h⟩ <;> simp [h]
@[simp] theorem State.route_txseq : (s.route P fr).txseq = s.txseq := by
  rcases s.route_cases P fr with ⟨_, h⟩ | ⟨_, h⟩ <;> simp [h]
@[simp] theorem State.route_relPend : (s.route P fr).relPend = s.relPend := by
  rcases s.route_cases P fr with ⟨_, h⟩ | ⟨_, h⟩ <;> simp [h]
@[simp] theorem State.route_released : (s.route P fr).released = s.released := by
  rcases s.route_cases P fr with ⟨_, h⟩ | ⟨_, h⟩ <;> simp [h]
@[simp] theorem State.route_xerr : (s.route P fr).xerr = s.xerr := by
  rcases s.route_cases P fr with ⟨_, h⟩ | ⟨_, h⟩ <;> simp [h]
@[simp] theorem State.route_rxb : (s.route P fr).rxb = s.rxb := by
  rcases s.route_cases P fr with ⟨_, h⟩ | ⟨_, h⟩ <;> simp [h]
@[simp] theorem State.route_pending : (s.route P fr).pending = s.pending := by
  rcases s.route_cases P fr with ⟨_, h⟩ | ⟨_, h⟩ <;> simp [h]

end route

/-- The bytes skipped are those before the first sync byte (R161). -/
theorem State.skipToSync_rxb (P : Params) (s : State) :
    (s.skipToSync P s.rxb).rxb = s.rxb.dropWhile (· ≠ sync) := by
  generalize hr : s.rxb = rx
  induction rx generalizing s with
  | nil => simp [State.skipToSync, hr]
  | cons b rx ih =>
    unfold State.skipToSync
    split
    · next h => simp [hr, h]
    · next h =>
      rw [ih _ (by simp [hr])]
      simp [h]

/-- Skipping changes nothing but the buffer and CNT_DISCARD (R161). -/
theorem State.skipToSync_eq (P : Params) (s : State) (rx : List Byte) :
    s.skipToSync P rx = { s with rxb := (s.skipToSync P rx).rxb, cnt := (s.skipToSync P rx).cnt } := by
  induction rx generalizing s with
  | nil => rfl
  | cons b rx ih =>
    unfold State.skipToSync
    split
    · rfl
    · rw [ih]; rfl

section skip

variable (P : Params) (s : State) (rx : List Byte)

@[simp] theorem State.skipToSync_thr : (s.skipToSync P rx).thr = s.thr := by rw [State.skipToSync_eq]
@[simp] theorem State.skipToSync_phase : (s.skipToSync P rx).phase = s.phase := by rw [State.skipToSync_eq]
@[simp] theorem State.skipToSync_burst : (s.skipToSync P rx).burst = s.burst := by rw [State.skipToSync_eq]
@[simp] theorem State.skipToSync_counter : (s.skipToSync P rx).counter = s.counter := by rw [State.skipToSync_eq]
@[simp] theorem State.skipToSync_txseq : (s.skipToSync P rx).txseq = s.txseq := by rw [State.skipToSync_eq]
@[simp] theorem State.skipToSync_relPend : (s.skipToSync P rx).relPend = s.relPend := by rw [State.skipToSync_eq]
@[simp] theorem State.skipToSync_released : (s.skipToSync P rx).released = s.released := by rw [State.skipToSync_eq]
@[simp] theorem State.skipToSync_xerr : (s.skipToSync P rx).xerr = s.xerr := by rw [State.skipToSync_eq]
@[simp] theorem State.skipToSync_out : (s.skipToSync P rx).out = s.out := by rw [State.skipToSync_eq]
@[simp] theorem State.skipToSync_pending : (s.skipToSync P rx).pending = s.pending := by rw [State.skipToSync_eq]

end skip

/-- What one pass does once the head of the buffer is empty or a sync byte: it stops, or it drops a truncated candidate's sync
byte, or it accepts a whole frame, or it drops a rejected candidate's sync byte (R162..R166). -/
theorem State.candidatePass_cases (P : Params) (final : Bool) (s : State) :
    (s.rxb = [] ∧ s.candidatePass P final = .stop s) ∨
    (s.rxb ≠ [] ∧ incomplete s.rxb = true ∧ final = false ∧ s.candidatePass P final = .stop s) ∨
    (s.rxb ≠ [] ∧ incomplete s.rxb = true ∧ final = true ∧ s.candidatePass P final = .again (s.truncated P)) ∨
    (∃ fr, incomplete s.rxb = false ∧
      decodeFrame P.checksumAlg (s.rxb.take ((byteAt s.rxb 1).toNat + 2)) = .ok fr ∧
      s.candidatePass P final = .again (s.accept P fr ((byteAt s.rxb 1).toNat + 2))) ∨
    (∃ e, incomplete s.rxb = false ∧
      decodeFrame P.checksumAlg (s.rxb.take ((byteAt s.rxb 1).toNat + 2)) = .error e ∧
      s.candidatePass P final = .again (s.rejectCandidate P e)) := by
  by_cases h0 : s.rxb = []
  · exact .inl ⟨h0, by simp [State.candidatePass, h0]⟩
  have h0' : s.rxb.isEmpty = false := by simpa using h0
  cases hi : incomplete s.rxb with
  | true =>
    cases final with
    | false => exact .inr (.inl ⟨h0, rfl, rfl, by simp [State.candidatePass, h0', hi]⟩)
    | true => exact .inr (.inr (.inl ⟨h0, rfl, rfl, by simp [State.candidatePass, h0', hi]⟩))
  | false =>
    cases hd : decodeFrame P.checksumAlg (s.rxb.take ((byteAt s.rxb 1).toNat + 2)) with
    | ok fr => exact .inr (.inr (.inr (.inl ⟨fr, rfl, rfl, by simp [State.candidatePass, h0', hi, hd]⟩)))
    | error e => exact .inr (.inr (.inr (.inr ⟨e, rfl, rfl, by simp [State.candidatePass, h0', hi, hd]⟩)))

theorem incomplete_eq_false {rx : List Byte} (h : incomplete rx = false) :
    2 ≤ rx.length ∧ (byteAt rx 1).toNat + 2 ≤ rx.length := by
  simp [incomplete] at h; exact h

@[simp] theorem State.accept_rxb (P : Params) (s : State) (fr : Frame) (n : Nat) :
    (s.accept P fr n).rxb = s.rxb.drop n := by simp [State.accept]

section accept

variable (P : Params) (s : State) (fr : Frame) (n : Nat)

@[simp] theorem State.accept_thr : (s.accept P fr n).thr = s.thr := by simp [State.accept]
@[simp] theorem State.accept_phase : (s.accept P fr n).phase = s.phase := by simp [State.accept]
@[simp] theorem State.accept_burst : (s.accept P fr n).burst = s.burst := by simp [State.accept]
@[simp] theorem State.accept_counter : (s.accept P fr n).counter = s.counter := by simp [State.accept]
@[simp] theorem State.accept_txseq : (s.accept P fr n).txseq = s.txseq := by simp [State.accept]
@[simp] theorem State.accept_relPend : (s.accept P fr n).relPend = s.relPend := by simp [State.accept]
@[simp] theorem State.accept_released : (s.accept P fr n).released = s.released := by simp [State.accept]
@[simp] theorem State.accept_xerr : (s.accept P fr n).xerr = s.xerr := by simp [State.accept]
@[simp] theorem State.accept_out : (s.accept P fr n).out = ((s.count P .rxOk).route P fr).out := rfl
@[simp] theorem State.accept_pending : (s.accept P fr n).pending = s.pending := by simp [State.accept]
@[simp] theorem State.accept_cnt : (s.accept P fr n).cnt = ((s.count P .rxOk).route P fr).cnt := rfl

end accept

/-- A pass that goes round again leaves a shorter buffer (R169). -/
theorem State.candidatePass_shrinks {P : Params} {final : Bool} {s s' : State}
    (h : s.candidatePass P final = .again s') : s'.rxb.length < s.rxb.length := by
  rcases s.candidatePass_cases P final with ⟨_, h'⟩ | ⟨_, _, _, h'⟩ | ⟨h0, _, _, h'⟩ | ⟨fr, hi, _, h'⟩ | ⟨e, hi, _, h'⟩
  · rw [h'] at h; cases h
  · rw [h'] at h; cases h
  · rw [h'] at h; cases h
    have := List.length_pos_of_ne_nil h0
    simp; omega
  · rw [h'] at h; cases h
    have := incomplete_eq_false hi
    simp; omega
  · rw [h'] at h; cases h
    have := incomplete_eq_false hi
    simp; omega

theorem State.skipToSync_rxb_length_le (P : Params) (s : State) :
    (s.skipToSync P s.rxb).rxb.length ≤ s.rxb.length := by
  rw [State.skipToSync_rxb]; exact (List.dropWhile_sublist _).length_le

theorem State.scanPass_shrinks {P : Params} {final : Bool} {s s' : State}
    (h : s.scanPass P final = .again s') : s'.rxb.length < s.rxb.length :=
  Nat.lt_of_lt_of_le (State.candidatePass_shrinks h) (s.skipToSync_rxb_length_le P)

/-- Passes beyond `|RXB| + 1` change nothing (R169). -/
theorem State.scanFor_enough (P : Params) (final : Bool) :
    ∀ (s : State) (m n : Nat), s.rxb.length < m → s.rxb.length < n → s.scanFor P final m = s.scanFor P final n := by
  intro s m
  induction m generalizing s with
  | zero => intro n h; omega
  | succ m ih =>
    intro n hm hn
    cases n with
    | zero => omega
    | succ n =>
      simp only [State.scanFor]
      cases h : s.scanPass P final with
      | stop s' => rfl
      | again s' =>
        have := State.scanPass_shrinks h
        exact ih s' n (by omega) (by omega)

/-- SCAN's own equation: one pass, and round again where the pass says so (R160). -/
theorem State.scan_eq (P : Params) (final : Bool) (s : State) :
    s.scan P final =
      match s.scanPass P final with
      | .stop s' => s'
      | .again s' => s'.scan P final := by
  unfold State.scan
  rw [State.scanFor]
  cases h : s.scanPass P final with
  | stop s' => rfl
  | again s' =>
    have := State.scanPass_shrinks h
    exact State.scanFor_enough P final s' _ _ (by omega) (by omega)

/-- Induction along the passes of SCAN: a property of a state and the scan's result holds if it holds where a pass stops, and
passes from the state after a pass to the state before it. -/
theorem State.scan_induct (P : Params) (final : Bool) {M : State → State → Prop}
    (stop : ∀ s s', s.scanPass P final = .stop s' → M s s')
    (again : ∀ s s', s.scanPass P final = .again s' → M s' (s'.scan P final) → M s (s'.scan P final)) :
    ∀ s : State, M s (s.scan P final) := by
  intro s
  induction hn : s.rxb.length using Nat.strongRecOn generalizing s with
  | ind n ih =>
    rw [State.scan_eq]
    cases h : s.scanPass P final with
    | stop s' => exact stop s s' h
    | again s' => exact again s s' h (ih _ (hn ▸ State.scanPass_shrinks h) s' rfl)

end Sys2Proof.Machine
end

