-- ==== Sys2Proof/Laws/Scheduler.lean ====
section
/-! SUPPORT. The command state machine: what TICK and the teardown can do, said once (44_scheduler.md R252..R262). -/

namespace Sys2Proof.Machine

/-- TICK: silent; or a frame outside a burst; or a frame of a burst that goes on; or the last frame of an arming burst, of a
disarm burst, of a disarm burst before a release (R256). -/
theorem State.tick_cases (P : Params) (s : State) :
    ((s.released = true ∨ s.phase = .disarmed) ∧ s.tick P = s) ∨
    (s.released = false ∧ s.phase = .armed ∧ s.tick P = s.sendFrame P) ∨
    (s.released = false ∧ (s.phase = .arming ∨ s.phase = .disarming) ∧ s.burst + 1 ≠ P.burstLen ∧
      s.tick P = { s.sendFrame P with burst := s.burst + 1 }) ∨
    (s.released = false ∧ s.phase = .arming ∧ s.burst + 1 = P.burstLen ∧
      s.tick P = { s.sendFrame P with burst := 0, phase := .armed }) ∨
    (s.released = false ∧ s.phase = .disarming ∧ s.relPend = false ∧ s.burst + 1 = P.burstLen ∧
      s.tick P = { s.sendFrame P with burst := 0, phase := .disarmed }) ∨
    (s.released = false ∧ s.phase = .disarming ∧ s.relPend = true ∧ s.burst + 1 = P.burstLen ∧
      s.tick P = { s.sendFrame P with burst := 0, phase := .disarmed }.release) := by
  cases hr : s.released <;> cases hp : s.phase <;> by_cases hb : s.burst + 1 = P.burstLen <;> cases hq : s.relPend <;>
    simp [State.tick, State.stepBurst, State.endBurst, hr, hp, hb, hq]

/-- ABORT's and TRANSPORT_ERROR's phase cases (R252, R254). -/
theorem State.teardown_cases (P : Params) (s : State) :
    (s.phase = .disarmed ∧ s.teardown P = s.release) ∨
    ((s.phase = .arming ∨ s.phase = .armed) ∧ s.teardown P = { s.enterDisarming P with relPend := true }) ∨
    (s.phase = .disarming ∧ s.teardown P = { s with relPend := true }) := by
  cases hp : s.phase <;> simp [State.teardown, hp]

/-- The payload the builder lays out has 26 bytes (42_builder.md R190). -/
@[simp] theorem buildA021_length (P : Params) (armed : Bool) (t : Throttles) (st : Byte) (ctr : Half) :
    (buildA021 P armed t st ctr).length = 26 := by simp [buildA021]

/-- `encode` does not fail on the block's own payload, and gives the frame that TICK sends (R195). -/
theorem State.encodeFrame_command (P : Params) (s : State) :
    encodeFrame P.checksumAlg cmdA021 txReserved s.txseq (s.commandPayload P) = .ok (s.commandFrame P) := by
  simp [encodeFrame, State.commandPayload, State.commandFrame, maxPayload]

end Sys2Proof.Machine
end

