-- ==== Sys2Proof/Laws/Exec.lean ====
section
/-! SUPPORT. `exec` and `step`: the state that each operation leaves, as one function, so that a proof about any operation is a
case split over it. -/

namespace Sys2Proof.Machine

/-- The state after an operation, for the parameters of this hardware. -/
def State.afterInstr (s : State) : Instr → State
  | .reset => s.toReset hw
  | .arm => s.arm hw
  | .disarm => s.disarm hw
  | .setThrottle t0 t1 t2 t3 => s.setThrottle hw ⟨t0, t1, t2, t3⟩
  | .abort => s.abort hw
  | .transportError => s.transportError hw
  | .tick => s.tick hw
  | .rxByte b => (s.pushRx b).scan hw false
  | .rxFlush => s.scan hw true
  | .encode cmdId reserved sequence payload =>
    s.emit (.result (encodeResult hw.checksumAlg cmdId reserved sequence payload))
  | .decode data => s.emit (.result (decodeResult hw.checksumAlg data))
  | .checksum data => s.emit (.result (checksumResult hw.checksumAlg data))
  | .readReg r => s.readReg hw r
  | .illegal w => s.illegalOp hw w.head? (rejection w)
  | .frameA0d0 flags reserved sequence payload cs =>
    s.routeTelem hw { flags, cmdId := cmdA0d0, reserved, sequence, payload, checksum := cs }
  | .frameA021 flags reserved sequence payload cs =>
    s.routeFeedback hw { flags, cmdId := cmdA021, reserved, sequence, payload, checksum := cs }
  | .frameOther fr => s.routeOther fr

/-- `exec` always goes on, to that state. -/
theorem exec_eq_afterInstr (i : Instr) (s : State) : exec i s = .next (s.afterInstr i) := by
  cases i <;> rfl

/-- A sequence of operations always goes on, each from the state the last one left. -/
theorem performAll_eq_foldl (is : List Instr) (s : State) :
    performAll is s = .next (is.foldl State.afterInstr s) := by
  induction is generalizing s with
  | nil => rfl
  | cons i is ih => simp only [performAll, exec_eq_afterInstr, List.foldl_cons]; exact ih _

/-- With nothing presented a step changes nothing (R340). -/
theorem step_idle {s : State} (h : s.pending = []) : step s = .next s := by
  simp [step, State.fetch, h]

/-- A step takes the next word presented and performs it (R296). -/
theorem step_word {s : State} {w : List Byte} {ws : List (List Byte)} (h : s.pending = w :: ws) :
    step s = .next (State.afterInstr { s with pending := ws } (Sys2Proof.decode w)) := by
  simp [step, State.fetch, h, exec_eq_afterInstr]

end Sys2Proof.Machine
end

