-- ==== Sys2Proof/Laws/PerInstr.lean ====
section
/-! SUPPORT. The family EncodedLength, one lemma per constructor of `Instr`: an encoded instruction is as long as its format
says, a host word as R100's "total bytes", a FRAME row as R81's ten bytes and the payload. -/

namespace Sys2Proof.Laws

/-- The number of bytes that the format of an instruction gives it (30_encoding.md R81, R100). -/
def formatBytes : Instr → Nat
  | .reset | .arm | .disarm | .abort | .transportError | .tick | .rxFlush => 1
  | .setThrottle .. => 9
  | .rxByte _ | .readReg _ => 2
  | .encode _ _ _ payload => 7 + payload.length
  | .decode data | .checksum data => 3 + data.length
  | .illegal w => w.length
  | .frameA0d0 _ _ _ payload _ | .frameA021 _ _ _ payload _ => 10 + payload.length
  | .frameOther fr => 10 + fr.payload.length

def EncodedLength.Statement (i : Instr) : Prop := (Sys2Proof.encode i).length = formatBytes i

theorem EncodedLength.reset : EncodedLength.Statement .reset := rfl
theorem EncodedLength.arm : EncodedLength.Statement .arm := rfl
theorem EncodedLength.disarm : EncodedLength.Statement .disarm := rfl
theorem EncodedLength.setThrottle (t0 t1 t2 t3 : Half) : EncodedLength.Statement (.setThrottle t0 t1 t2 t3) := rfl
theorem EncodedLength.abort : EncodedLength.Statement .abort := rfl
theorem EncodedLength.transportError : EncodedLength.Statement .transportError := rfl
theorem EncodedLength.tick : EncodedLength.Statement .tick := rfl
theorem EncodedLength.rxByte (b : Byte) : EncodedLength.Statement (.rxByte b) := rfl
theorem EncodedLength.rxFlush : EncodedLength.Statement .rxFlush := rfl
theorem EncodedLength.encode (cmdId reserved : Half) (sequence : Byte) (payload : List Byte) :
    EncodedLength.Statement (.encode cmdId reserved sequence payload) := by
  simp [EncodedLength.Statement, Sys2Proof.encode, formatBytes]; omega
theorem EncodedLength.decode (data : List Byte) : EncodedLength.Statement (.decode data) := by
  simp [EncodedLength.Statement, Sys2Proof.encode, formatBytes]; omega
theorem EncodedLength.checksum (data : List Byte) : EncodedLength.Statement (.checksum data) := by
  simp [EncodedLength.Statement, Sys2Proof.encode, formatBytes]; omega
theorem EncodedLength.readReg (r : Byte) : EncodedLength.Statement (.readReg r) := rfl
theorem EncodedLength.illegal (w : List Byte) : EncodedLength.Statement (.illegal w) := rfl
theorem EncodedLength.frameA0d0 (flags : Byte) (reserved : Half) (sequence : Byte) (payload : List Byte) (cs : Half) :
    EncodedLength.Statement (.frameA0d0 flags reserved sequence payload cs) := Frame.wire_length _
theorem EncodedLength.frameA021 (flags : Byte) (reserved : Half) (sequence : Byte) (payload : List Byte) (cs : Half) :
    EncodedLength.Statement (.frameA021 flags reserved sequence payload cs) := Frame.wire_length _
theorem EncodedLength.frameOther (fr : Frame) : EncodedLength.Statement (.frameOther fr) := Frame.wire_length _

end Sys2Proof.Laws
end

