-- ==== Sys2Proof/Machine/Assembler.lean ====
section
/-! DEFINITION. The assembly syntax of host programs (30_encoding.md R105) and its pseudo-operations (R106), over lists of
characters. It names operations; it adds no behaviour to the block (log 19). -/

namespace Sys2Proof

/-- The pseudo-operations of R106, which are spec notation: each stands for real operations. -/
inductive Pseudo where
  | rxBytes (bs : List Byte)
  | ticks (k : Nat)
  | rxFrame (f : List Byte)
deriving DecidableEq, Repr

/-- The expansion of R106. -/
def Pseudo.expand : Pseudo → List Instr
  | .rxBytes bs => bs.map .rxByte
  | .ticks k => List.replicate k .tick
  | .rxFrame f => f.map .rxByte

/-- An operand of R105: a number, or a byte list whose count is implied. -/
inductive AsmOperand where
  | num (n : Nat)
  | list (l : List Nat)
deriving DecidableEq, Repr

/-- A blank of an assembly line. -/
def isBlank (c : Char) : Bool := c = ' ' || c = '\t' || c = '\r'

/-- A piece of a line without the blanks around it. -/
def trimBlanks (cs : List Char) : List Char :=
  ((cs.dropWhile isBlank).reverse.dropWhile isBlank).reverse

/-- A digit's value in base 16 at most, capitals allowed. -/
def digitValue (c : Char) : Option Nat :=
  let n := c.toNat
  if 48 ≤ n ∧ n ≤ 57 then some (n - 48)
  else if 97 ≤ n ∧ n ≤ 102 then some (n - 87)
  else if 65 ≤ n ∧ n ≤ 70 then some (n - 55)
  else none

/-- The digits `cs` read in base `base` after the value `acc`. -/
def digitsValue (base : Nat) : Nat → List Char → Option Nat
  | acc, [] => some acc
  | acc, c :: cs =>
    match digitValue c with
    | some d => if d < base then digitsValue base (acc * base + d) cs else none
    | none => none

/-- A number: decimal, or hexadecimal after `0x` (R105). -/
def parseNumber (cs : List Char) : Option Nat :=
  match cs with
  | [] => none
  | '0' :: 'x' :: [] => none
  | '0' :: 'x' :: ds => digitsValue 16 0 ds
  | ds => digitsValue 10 0 ds

/-- A line cut at its commas, but for those inside brackets. -/
def splitOperands : Bool → List Char → List Char → List (List Char)
  | _, acc, [] => [acc.reverse]
  | inside, acc, c :: cs =>
    if c = ',' && !inside then acc.reverse :: splitOperands inside [] cs
    else splitOperands (c = '[' || (inside && c != ']')) (c :: acc) cs

/-- All of a list of results, or none. -/
def allSome {α : Type} : List (Option α) → Option (List α)
  | [] => some []
  | x :: xs =>
    match x, allSome xs with
    | some a, some as => some (a :: as)
    | _, _ => none

/-- One operand: `[b0, b1, …]` or a number (R105). -/
def parseOperand (cs : List Char) : Option AsmOperand :=
  match trimBlanks cs with
  | '[' :: rest =>
    match rest.reverse with
    | ']' :: mid =>
      let body := trimBlanks mid.reverse
      if body.isEmpty then some (.list [])
      else (allSome ((splitOperands false [] body).map fun c => parseNumber (trimBlanks c))).map .list
    | _ => none
  | cs' => (parseNumber cs').map .num

/-- The operands of a line, none where nothing follows the mnemonic. -/
def parseOperands (cs : List Char) : Option (List AsmOperand) :=
  if (trimBlanks cs).isEmpty then some [] else allSome ((splitOperands false [] cs).map parseOperand)

/-- The bytes of a byte list, where each number is a byte. -/
def bytesOfList (l : List Nat) : Option (List Byte) :=
  if l.all (· < 256) then some (l.map (BitVec.ofNat 8)) else none

/-- The operations that a mnemonic and its operands stand for: one for a real operation (R105), several for a pseudo-operation
(R106). Numbers out of an operand's range are rejected. -/
def assembleOp (mnemonic : List Char) (ops : List AsmOperand) : Option (List Instr) :=
  match String.ofList mnemonic, ops with
  | "RESET", [] => some [.reset]
  | "ARM", [] => some [.arm]
  | "DISARM", [] => some [.disarm]
  | "SET_THROTTLE", [.num a, .num b, .num c, .num d] =>
    if a < 65536 ∧ b < 65536 ∧ c < 65536 ∧ d < 65536 then
      some [.setThrottle (BitVec.ofNat 16 a) (BitVec.ofNat 16 b) (BitVec.ofNat 16 c) (BitVec.ofNat 16 d)]
    else none
  | "ABORT", [] => some [.abort]
  | "TRANSPORT_ERROR", [] => some [.transportError]
  | "TICK", [] => some [.tick]
  | "RX_BYTE", [.num b] => if b < 256 then some [.rxByte (BitVec.ofNat 8 b)] else none
  | "RX_FLUSH", [] => some [.rxFlush]
  | "ENCODE", [.num cmdId, .num reserved, .num sequence, .list l] =>
    if cmdId < 65536 ∧ reserved < 65536 ∧ sequence < 256 ∧ l.length < 256 then
      (bytesOfList l).map fun p =>
        [.encode (BitVec.ofNat 16 cmdId) (BitVec.ofNat 16 reserved) (BitVec.ofNat 8 sequence) p]
    else none
  | "DECODE", [.list l] => if l.length < 65536 then (bytesOfList l).map fun d => [.decode d] else none
  | "CHECKSUM", [.list l] => if l.length < 65536 then (bytesOfList l).map fun d => [.checksum d] else none
  | "READ_REG", [.num r] => if r < 256 then some [.readReg (BitVec.ofNat 8 r)] else none
  | "RX_BYTES", [.list l] => (bytesOfList l).map fun d => (Pseudo.rxBytes d).expand
  | "TICKS", [.num k] => some (Pseudo.ticks k).expand
  | "RX_FRAME", [.list l] => (bytesOfList l).map fun d => (Pseudo.rxFrame d).expand
  | _, _ => none

/-- One line of a host program (R105): a comment runs from `;` to the end, an empty line stands for no operation. -/
def assembleLine (cs : List Char) : Option (List Instr) :=
  let line := trimBlanks (cs.takeWhile (· ≠ ';'))
  if line.isEmpty then some []
  else
    match parseOperands (line.dropWhile (fun c => !isBlank c)) with
    | some ops => assembleOp (line.takeWhile (fun c => !isBlank c)) ops
    | none => none

end Sys2Proof
end

