-- ==== Sys2Proof/Tests/Slice0.lean ====
section
/-! SUPPORT. Tests, each expected value taken from the spec (95_test_vectors.md unless another file is named), and for each
statement with hypotheses a theorem that concrete states and operands meet them. -/

namespace Sys2Proof.Tests

open Sys2Proof.Machine

/-- The test parameters of 95_test_vectors.md section 0; they are not the hardware's. -/
def TP : Params where
  burstLen := 5
  idleThrottle := ⟨7, 0, 944, 0⟩
  a021Template := Vector.ofFn fun i => BitVec.ofNat 8 i.val
  stateByteOf := Phase.code
  checksumAlg := .crc16R
  cntW := 16
  rxbufCap := 257
  tickPeriodMs := 80

/-- A state in a phase, all else zero or empty. -/
def inPhase (ph : Phase) : State where
  thr := ⟨7, 0, 944, 0⟩
  phase := ph
  burst := 0
  counter := 0
  txseq := 0
  relPend := false
  released := false
  xerr := false
  rxb := []
  cnt := {}
  out := []
  pending := []

/-- The state after an operation, where it goes on. -/
def after (i : Instr) (s : State) : Option State :=
  match exec i s with
  | .next t => some t
  | .fault _ => none
  | .refused _ => none

/-- The records an operation adds. -/
def emits (i : Instr) (s : State) : List Record := ((after i s).map fun t => t.out.drop s.out.length).getD []

def f1 : List Byte := [0x55, 0x08, 0x00, 0xD0, 0xA0, 0x01, 0x00, 0x00, 0x20, 0x67]
def f2 : List Byte := [0x55, 0x0A, 0x00, 0x34, 0x12, 0xCD, 0xAB, 0x7F, 0xDE, 0xAD, 0x67, 0x67]
def tl : List Byte := [0x55, 0x18, 0x00, 0xD0, 0xA0, 0x01, 0x00, 0x10, 0xB0, 0x03, 0x64, 0x00, 0xD0, 0x07, 0x23, 0x00, 0x01,
  0x00, 0x02, 0x00, 0x03, 0x00, 0x04, 0x00, 0x46, 0x2F]
def f1Frame : Frame := ⟨0x00, 0xA0D0, 0x0001, 0x00, [], 0x6720⟩
def f2Frame : Frame := ⟨0x00, 0x1234, 0xABCD, 0x7F, [0xDE, 0xAD], 0x6767⟩
def tlPayload : List Byte := [0xB0, 0x03, 0x64, 0x00, 0xD0, 0x07, 0x23, 0x00, 0x01, 0x00, 0x02, 0x00, 0x03, 0x00, 0x04, 0x00]
/-- The payload of vector V-RT-5. -/
def rt5Payload : List Byte := [0x00, 0x00, 0x00, 0x00, 0x00, 0x00, 0x00, 0x00, 0xB0, 0x03, 0x00, 0x00, 0x00, 0x00, 0x00, 0x81,
  0x34, 0x12, 0x00, 0x00, 0x00, 0x00, 0x07, 0x00, 0x00, 0x00]

/-! Decoding: a word of each row, written out from 30_encoding.md R100 and R80. -/

theorem test_decode_reset : decode [0x01] = .reset := by decide
theorem test_decode_arm : decode [0x02] = .arm := by decide
theorem test_decode_disarm : decode [0x03] = .disarm := by decide
theorem test_decode_setThrottle : decode [0x04, 0xE8, 0x03, 0x4C, 0x04, 0xB0, 0x04, 0x14, 0x05] =
    .setThrottle 1000 1100 1200 1300 := by decide
theorem test_decode_abort : decode [0x05] = .abort := by decide
theorem test_decode_transportError : decode [0x06] = .transportError := by decide
theorem test_decode_tick : decode [0x07] = .tick := by decide
theorem test_decode_rxByte : decode [0x10, 0x55] = .rxByte 0x55 := by decide
theorem test_decode_rxFlush : decode [0x11] = .rxFlush := by decide
theorem test_decode_encode : decode [0x20, 0x34, 0x12, 0xCD, 0xAB, 0x7F, 0x02, 0xDE, 0xAD] =
    .encode 0x1234 0xABCD 0x7F [0xDE, 0xAD] := by decide
theorem test_decode_decode : decode [0x21, 0x02, 0x00, 0xAA, 0xBB] = .decode [0xAA, 0xBB] := by decide
theorem test_decode_checksum : decode [0x22, 0x01, 0x00, 0x55] = .checksum [0x55] := by decide
theorem test_decode_readReg : decode [0x30, 0x1A] = .readReg 0x1A := by decide
theorem test_decode_illegal : decode [0x20, 0x34, 0x12, 0xCD, 0xAB, 0x7F, 0x02, 0xDE, 0xAD, 0xAA] =
    .illegal [0x20, 0x34, 0x12, 0xCD, 0xAB, 0x7F, 0x02, 0xDE, 0xAD, 0xAA] := by decide
theorem test_decode_illegal_opcodes : ∀ op ∈ ([0x00, 0x08, 0x0F, 0x12, 0x1F, 0x23, 0x2F, 0x31, 0xFF] : List Byte),
    decode [op] = .illegal [op] ∧ rejection [op] = some .unknownOpcode := by decide
theorem test_decode_frameA0d0 : (match decodeWire tl with | .ok i => some i | .error _ => none) =
    some (.frameA0d0 0x00 0x0001 0x10 tlPayload 0x2F46) := by decide +kernel
theorem test_decode_frameA021 : (match decodeWire ([0x55, 0x22, 0x00, 0x21, 0xA0, 0x01, 0x00, 0x09] ++ rt5Payload ++
    [0x3A, 0x15]) with | .ok i => some i | .error _ => none) =
    some (.frameA021 0x00 0x0001 0x09 rt5Payload 0x153A) := by decide +kernel
theorem test_decode_frameOther : (match decodeWire f2 with | .ok i => some i | .error _ => none) =
    some (.frameOther f2Frame) := by decide +kernel
theorem test_tableWord_rows : ((decodeTableWord 8 0x07) = some .tick ∧ (decodeTableWord 8 0x10) = some (.rxByte 0)) ∧
    (decodeTableWord 8 0x20 = some (.encode 0 0 0 []) ∧ decodeTableWord 8 0x00 = some (.illegal [0x00])) ∧
    ((decodeTableWord 16 0xA0D0).bind Instr.frame?).map (·.cmdId) = some 0xA0D0 ∧
    ((decodeTableWord 16 0xA021).bind Instr.frame?).map (·.cmdId) = some 0xA021 := by decide +kernel

/-! WellFormed: each check refuses an ill-formed term. -/

theorem test_wf_encode_too_long : (Instr.encode 0 0 0 (List.replicate 256 0)).wellFormed = false := by decide +kernel
theorem test_wf_decode_too_long (d : List Byte) (h : d.length = 65536) : (Instr.decode d).wellFormed = false :=
  decide_eq_false (by omega)
theorem test_wf_checksum_too_long (d : List Byte) (h : d.length = 65536) : (Instr.checksum d).wellFormed = false :=
  decide_eq_false (by omega)
theorem test_wf_illegal_but_legal : (Instr.illegal [0x07]).wellFormed = false := by decide
theorem test_wf_frame_too_long : (Instr.frameA0d0 0 0 0 (List.replicate 248 0) 0).wellFormed = false := by decide +kernel
theorem test_wf_frame_checksum : (Instr.frameA0d0 0x00 0x0001 0x00 [] 0x6721).wellFormed = false := by decide +kernel
theorem test_wf_frameA021_checksum : (Instr.frameA021 0x00 0x0001 0x00 [] 0x6720).wellFormed = false := by decide +kernel
theorem test_wf_other_known_id : (Instr.frameOther f1Frame).wellFormed = false := by decide +kernel
theorem test_wf_good_frames : (Instr.frameA0d0 0x00 0x0001 0x00 [] 0x6720).wellFormed = true ∧
    (Instr.frameOther f2Frame).wellFormed = true := by decide +kernel

/-! The codec: V-CK, V-EN, V-DE. -/

theorem test_crc_reflected_constant : crcPoly.reverse = crcPolyReflected := by decide
theorem test_checksum_check_value : emits (.checksum [0x31, 0x32, 0x33, 0x34, 0x35, 0x36, 0x37, 0x38, 0x39]) State.reset =
    [.result (.ok (.num 0xE30B))] := by decide +kernel
theorem test_encode_v_en_2 : emits (.encode 0x1234 0xABCD 0x7F [0xDE, 0xAD]) State.reset =
    [.result (.ok (.bytes f2))] := by decide +kernel
theorem test_encode_v_en_5 : emits (.encode 0x0001 0x0001 0x00 (List.replicate 248 0)) State.reset =
    [.result (.err (.payloadTooLarge 248))] := by decide +kernel
theorem test_decode_v_de_6 : emits (.decode (f1.take 9 ++ [0x66])) State.reset =
    [.result (.err (.decoding (.checksumMismatch 0x6620 0x6720)))] := by decide +kernel
theorem test_decode_v_de_8 : emits (.decode (f1 ++ [0xAA, 0xBB])) State.reset =
    [.result (.ok (.frame f1Frame))] := by decide +kernel

/-! The synchronizer and the router: V-FR, V-RT. -/

theorem test_rxByte_completes_tl : emits (.rxByte 0x2F) { inPhase .disarmed with rxb := tl.dropLast } =
    [.rx ⟨0x00, 0xA0D0, 0x0001, 0x10, tlPayload, 0x2F46⟩ (.telem 0x10 #v[944, 100, 2000, 35, 1, 2, 3, 4])] := by
  decide +kernel
theorem test_rxByte_bad_checksum : (after (.rxByte 0x66) { inPhase .armed with rxb := f1.dropLast }).map
      (fun t => (t.out, t.rxb, t.cnt)) =
    some ([.report (.decoding (.checksumMismatch 0x6620 0x6720))], [],
      { checksumMismatch := 1, resync := 1, discard := 9 }) := by decide +kernel
theorem test_rxFlush_v_fr_2 : (after .rxFlush { inPhase .disarmed with rxb := [0x55, 0x55] ++ f1 }).map
      (fun t => (t.out, t.rxb, t.cnt)) =
    some ([.report (.truncated 12 (some 0x55)), .report (.truncated 11 (some 0x55)), .rx f1Frame .shortPayload,
      .report (.shortPayload 0xA0D0 0 16)], [], { rxOk := 1, resync := 2, truncated := 2, shortPayload := 1 }) := by
  decide +kernel
theorem test_rxFlush_v_fr_5 : emits .rxFlush { inPhase .disarmed with rxb := [0x55] } =
    [.report (.truncated 1 none)] := by decide +kernel
theorem test_frameA0d0_v_rt_3 : emits (.frameA0d0 0 1 2 (List.replicate 15 0) 0x9369) State.reset =
    [.rx ⟨0, 0xA0D0, 1, 2, List.replicate 15 0, 0x9369⟩ .shortPayload, .report (.shortPayload 0xA0D0 15 16)] := by
  decide +kernel
theorem test_frameA021_v_rt_5 : emits (.frameA021 0 1 9 rt5Payload 0x153A) State.reset =
    [.rx ⟨0, 0xA021, 1, 9, rt5Payload, 0x153A⟩ (.feedback 9 944 0x81 false 0x1234 0x07)] := by decide +kernel
theorem test_frameOther_v_rt_7 : emits (.frameOther f2Frame) State.reset = [.rx f2Frame .other] := by decide +kernel

/-! The command state machine: V-BU, V-SC. -/

theorem test_build_v_bu_2 : buildA021 TP true ⟨0xFFFF, 0x8000, 0x0001, 0x1234⟩ 0x02 0x0102 =
    [0x00, 0x01, 0xFF, 0xFF, 0x04, 0x05, 0x00, 0x80, 0x01, 0x00, 0x34, 0x12, 0x0C, 0x0D, 0x0E, 0x80, 0x02, 0x01, 0x12, 0x13,
      0x14, 0x15, 0x02, 0x17, 0x18, 0x19] := by decide +kernel
theorem test_tick_v_sc_6 : ({ inPhase .armed with counter := 0xFFFF, txseq := 0xFF }.tick TP).out =
    [.tx [0x55, 0x22, 0x00, 0x21, 0xA0, 0x01, 0x00, 0xFF, 0x00, 0x01, 0x07, 0x00, 0x04, 0x05, 0x00, 0x00, 0xB0, 0x03, 0x00,
      0x00, 0x0C, 0x0D, 0x0E, 0x80, 0xFF, 0xFF, 0x12, 0x13, 0x14, 0x15, 0x02, 0x17, 0x18, 0x19, 0x2A, 0x78]] := by
  decide +kernel
theorem test_tick_ends_the_teardown : (fun t : State => (t.phase, t.burst, t.relPend, t.released, t.counter, t.out.length))
      ({ inPhase .disarming with burst := 4, relPend := true, xerr := true, counter := 0xFFFF }.tick TP) =
    (.disarmed, 0, false, true, 0, 3) := by decide +kernel
theorem test_arm_keeps_the_counter : (after .arm { inPhase .disarmed with counter := 7, txseq := 7, burst := 3 }).map
    (fun t => (t.phase, t.burst, t.counter, t.txseq, t.out)) = some (.arming, 0, 7, 7, []) := by decide
theorem test_disarm_in_arming : (after .disarm { inPhase .arming with burst := 2 }).map (fun t => (t.phase, t.burst)) =
    some (.disarming, 0) := by decide
theorem test_setThrottle_v_sc_3 : emits (.setThrottle 1 2 3 4) (inPhase .disarmed) =
    [.report (.opIgnored 0x04 .disarmed false)] := by decide
theorem test_setThrottle_in_armed : (after (.setThrottle 1000 1100 1200 1300) (inPhase .armed)).map (·.thr) =
    some ⟨1000, 1100, 1200, 1300⟩ := by decide
theorem test_abort_v_sc_5 : emits .abort (inPhase .disarmed) = [.released false] ∧
    emits .abort { inPhase .disarmed with released := true } = [.report (.opIgnored 0x05 .disarmed true)] := by decide
theorem test_abort_v_sc_7 : (after .abort { inPhase .disarming with burst := 2 }).map (fun t => (t.burst, t.relPend)) =
    some (2, true) := by decide
theorem test_transportError_in_disarmed : emits .transportError (inPhase .disarmed) =
    [.report .transportIOError, .released true] := by decide
theorem test_transportError_v_sc_8 : (after .transportError (inPhase .armed)).map (·.status) = some 0x2B := by decide

/-! Host control: V-HC. -/

theorem test_readReg_v_hc_1 : emits (.readReg 0x00) (inPhase .armed) = [.result (.ok (.num 0x06))] := by decide
theorem test_readReg_v_hc_3 : emits (.readReg 0x09) (inPhase .armed) =
    [.report (.illegalOp (some 0x30) (some (.unassignedRegister 0x09)))] := by decide
theorem test_illegal_v_hc_5 : emits (.illegal [0x10]) (inPhase .armed) =
    [.report (.illegalOp (some 0x10) (some (.wrongLength 1 2)))] := by decide
theorem test_illegal_v_hc_6 : emits (.illegal []) (inPhase .armed) =
    [.report (.illegalOp none (some .emptyWord))] := by decide
theorem test_reset_v_hc_8 : (after .reset { inPhase .armed with counter := 5, rxb := [0x55], cnt := { illegal := 1 } }).map
    (fun t => (t.phase, t.counter, t.rxb, t.cnt, t.out)) = some (.disarmed, 0, [], {}, []) := by decide
theorem test_step_takes_one_word : (match step { inPhase .disarmed with pending := [[0x02], [0x07]] } with
    | .next t => some (t.phase, t.pending) | .fault _ => none | .refused _ => none) =
    some (.arming, [[0x07]]) := by decide
theorem test_params_valid : hw.Valid := by decide
theorem test_error_codes : ErrorKind.code (Err.kind (.decoding (.badSync 0))) = 1 ∧
    ErrorKind.code (Err.kind (.opIgnored 0 .armed false)) = 10 := by decide
/-- The order of 60_exceptions.md R318. -/
theorem test_serialize_puts_reset_first : serialize [[0x07], [0x02], [0x05], [0x06], [0x01]] =
    [[0x01], [0x06], [0x05], [0x02], [0x07]] := by decide
/-- The examples of 30_encoding.md R105 and R106. -/
theorem test_assemble_setThrottle : assembleLine "SET_THROTTLE 1000, 1100, 0x4B0, 1300 ; go".toList =
    some [.setThrottle 1000 1100 1200 1300] := by decide +kernel
theorem test_assemble_encode : assembleLine "ENCODE 0xA0D0, 0x0001, 0x00, []".toList =
    some [.encode 0xA0D0 0x0001 0x00 []] := by decide +kernel
theorem test_assemble_ticks : assembleLine "TICKS 3".toList = some [.tick, .tick, .tick] := by decide +kernel

/-! Witnesses: states and operands that meet the hypotheses of each statement that has some, clause by clause. -/

theorem test_witness_arm : ((inPhase .disarmed).released = false ∧ (inPhase .disarmed).phase = .disarmed) ∧
    { inPhase .disarmed with released := true }.released = true ∧ (inPhase .arming).phase ≠ .disarmed := by decide
theorem test_witness_disarm : ((inPhase .arming).released = false ∧ (inPhase .arming).phase = .arming) ∧
    (inPhase .armed).phase = .armed ∧ (inPhase .disarming).phase = .disarming := by decide
theorem test_witness_setThrottle : ((inPhase .armed).released = false ∧ (inPhase .armed).phase = .armed) ∧
    (inPhase .arming).phase ≠ .armed := by decide
theorem test_witness_teardown_phases : ∀ ph ∈ [Phase.disarmed, .arming, .armed, .disarming],
    (inPhase ph).released = false ∧ (inPhase ph).phase = ph := by decide
theorem test_witness_tick : (∀ n ∈ [0, 3], { inPhase .arming with burst := n }.burst + 1 ≠ hw.burstLen) ∧
    { inPhase .arming with burst := 4 }.burst + 1 = hw.burstLen ∧
    { inPhase .disarming with burst := 4, relPend := true }.burst + 1 = hw.burstLen := by decide
theorem test_witness_tick_layout : (inPhase .disarming).released = false ∧ (inPhase .disarming).phase ≠ .disarmed := by decide
theorem test_witness_completed_frame : f1Frame.wf .crc16R ∧
    { inPhase .armed with rxb := f1Frame.wire.dropLast }.rxb = f1Frame.wire.dropLast := by decide +kernel
theorem test_witness_encode : (List.replicate 247 (0 : Byte)).length ≤ 247 ∧
    247 < (List.replicate 248 (0 : Byte)).length := by decide +kernel
theorem test_witness_decode_errors : (f1.take 9).length < 10 ∧ (10 ≤ f1.length ∧ byteAt (f1.set 0 0x54) 0 ≠ 0x55#8) ∧
    (byteAt (f1.set 1 0x07) 1).toNat < 8 ∧ (f1.set 1 0x09).length < (byteAt (f1.set 1 0x09) 1).toNat + 2 := by decide
theorem test_witness_decode_whole : byteAt f1 0 = 0x55#8 ∧ 8 ≤ (byteAt f1 1).toNat ∧
    (byteAt f1 1).toNat + 2 ≤ f1.length ∧ checksum .crc16R (f1.take 8) = le16 f1 8 ∧
    checksum .crc16R (f1.take 8) ≠ le16 (f1.set 9 0x66) 8 := by decide +kernel
theorem test_witness_readReg : State.BurstInv hw { inPhase .arming with burst := 4 } ∧
    State.RxbInv { inPhase .armed with rxb := 0x55 :: 0xFF :: List.replicate 254 0 } ∧
    State.CounterWidthInv hw { inPhase .armed with cnt := { discard := 65535 } } :=
  ⟨by decide, by decide +kernel, by intro c; cases c <;> decide⟩
theorem test_witness_readReg_one_state : (inPhase .armed).BurstInv hw ∧ (inPhase .armed).RxbInv ∧
    (inPhase .armed).CounterWidthInv hw := ⟨by decide, by decide, by intro c; cases c <;> decide⟩
theorem test_witness_illegal : legalWord [] = false ∧ legalWord [0x00] = false ∧ legalWord [0x02, 0x00] = false ∧
    (∀ r ∈ ([0x09, 0x0F] : List Byte), 0x09 ≤ r.toNat ∧ r.toNat ≤ 0x0F) ∧
    (∀ r ∈ ([0x1B, 0xFF] : List Byte), 0x1B ≤ r.toNat) := by decide
theorem test_witness_payload_lengths : 16 ≤ tlPayload.length ∧ tlPayload.tail.length < 16 ∧ 26 ≤ rt5Payload.length ∧
    rt5Payload.tail.length < 26 := by decide
theorem test_witness_route : f1Frame.cmdId = 0xA0D0#16 ∧ { f1Frame with cmdId := 0xA021 }.cmdId = 0xA021#16 ∧
    f2Frame.cmdId ≠ 0xA0D0#16 ∧ f2Frame.cmdId ≠ 0xA021#16 := by decide
theorem test_witness_step : { inPhase .armed with pending := [[0x05]] }.pending = [[0x05#8]] ∧ decode [0x05] = .abort ∧
    Instr.abort.wellFormed = true ∧ (inPhase .armed).pending = [] := by decide
theorem test_witness_illegal_step : { inPhase .armed with pending := [[0x02, 0x00], [0x07]] }.pending = [[0x02#8, 0x00#8], [0x07#8]] ∧
    decode [0x02, 0x00] = .illegal [0x02, 0x00] := by decide
theorem test_witness_host_words : (Instr.encode 1 2 3 (List.replicate 255 0x55)).frame? = none ∧
    (Instr.encode 1 2 3 (List.replicate 255 0x55)).wellFormed = true := by decide +kernel
theorem test_witness_frame_rows : (Instr.frameOther f2Frame).frame? = some f2Frame ∧
    (Instr.frameOther f2Frame).wellFormed = true := by decide +kernel
theorem test_witness_bit_flips : (([] : List Byte).length ≤ 247 ∧ 9 < ([] : List Byte).length + 10) ∧
    (byteAt (f1.set 1 (byteAt f1 1 ^^^ 0x08)) 1).toNat < 8 ∧ 8 < (byteAt (f1.set 1 (byteAt f1 1 ^^^ 0x01)) 1).toNat := by decide
/-- F2's length byte `0x0A` lowered to `0x08` by one flip, without the coincidence. -/
theorem test_witness_bit_flip_shorter : (byteAt (f2.set 1 (byteAt f2 1 ^^^ (1#8 <<< 1))) 1).toNat = 8 ∧
    f2 = frameBytes .crc16R 0x1234 0xABCD 0x7F [0xDE, 0xAD] ∧
    checksum .crc16R ((f2.set 1 0x08).take 8) ≠ le16 (f2.set 1 0x08) 8 := by decide +kernel
theorem test_witness_receiver_ops : ∀ i ∈ [Instr.rxByte 0x55, .rxFlush, .readReg 0], schedulerOp i = false ∧ i ≠ .reset ∧
    (after i (inPhase .armed)).isSome = true := by decide
theorem test_witness_scheduler_ops : ∀ i ∈ [Instr.arm, .tick, .abort], schedulerOp i = true ∧
    (after i (inPhase .armed)).isSome = true := by decide
theorem test_witness_interference : (inPhase .armed).rxb = (inPhase .arming).rxb ∧ (inPhase .armed).cnt = (inPhase .arming).cnt ∧
    (inPhase .armed).sameCommand { inPhase .armed with rxb := [0x55] } := by decide
theorem test_witness_throttle_written : (after (.setThrottle 1 2 3 4) (inPhase .armed)).map (·.thr) ≠
    some (inPhase .armed).thr := by decide
theorem test_witness_released : { inPhase .disarmed with released := true }.released = true ∧
    (after .tick { inPhase .disarmed with released := true }).isSome = true := by decide
theorem test_witness_invariants : (inPhase .armed).ResyncInv hw ∧ (inPhase .armed).TeardownInv ∧
    (match step { inPhase .armed with pending := [[0x05]] } with | .next t => t.relPend | _ => false) = true := by decide
theorem test_witness_bursts : (inPhase .disarmed).released = false ∧ (inPhase .armed).relPend = false ∧ 0 ≤ 5 ∧ 5 ≤ 5 := by
  decide
theorem test_witness_teardown_sequence : Instr.reset ∉ [Instr.tick, .arm, .tick, .tick, .tick, .tick, .tick] ∧
    (match performAll (.abort :: [.tick, .arm, .tick, .tick, .tick, .tick, .tick]) (inPhase .armed) with
      | .next t => t.released | _ => false) = true := by decide
theorem test_witness_counter_order : Instr.reset ∉ [Instr.arm, .tick] ∧
    (match performAll [.reset, .arm, .tick] (inPhase .armed) with | .next t => some t.counter | _ => none) = some 1 := by
  decide
theorem test_witness_stream : (inPhase .armed).rxb = [] ∧
    (match performAll ([0x55#8].map .rxByte ++ [.rxFlush]) (inPhase .armed) with
      | .next t => some t.out | _ => none) = some [.report (.truncated 1 none)] := by decide +kernel
theorem test_witness_frames_in_garbage : FramesInGarbage .crc16R ([0xAA#8] ++ (f1Frame.wire ++ [0x55#8])) [f1Frame] 2 :=
  .garbage (fun h => absurd h (by decide))
    (.frame (by decide +kernel) (.garbage (fun _ h => absurd h (by decide)) .nil))
theorem test_witness_serialize : legalWord [0x01] = true ∧ legalWord [0x30, 0x00] = true ∧ legalWord [0x00] = false := by decide

end Sys2Proof.Tests
end

section
/-! PROOFS. The encoding (30_encoding.md): which host words are legal (R100, R102), and where each byte of the command frame
stands (R80, R86). -/

namespace Sys2Proof.Encoding

open Sys2Proof.Machine

/-! ### Host words: the opcode table and the illegal words -/

/-- The opcodes of R100's table. -/
def hostOpcodes : List Byte :=
  [opReset, opArm, opDisarm, opSetThrottle, opAbort, opTransportError, opTick, opRxByte, opRxFlush, opEncode, opDecode,
    opChecksum, opReadReg]

/-- R100's table, opcode by opcode: its "total bytes" column, and no entry for an opcode that the table lacks. -/
theorem totalBytes_cases (op : Byte) (w : List Byte) :
    (op ∈ [0x01#8, 0x02#8, 0x03#8, 0x05#8, 0x06#8, 0x07#8, 0x11#8] ∧ totalBytes op w = some 1) ∨
    (op = 0x04#8 ∧ totalBytes op w = some 9) ∨
    (op ∈ [0x10#8, 0x30#8] ∧ totalBytes op w = some 2) ∨
    (op = 0x20#8 ∧ totalBytes op w = some (if w.length < 7 then 7 else 7 + (byteAt w 6).toNat)) ∨
    (op ∈ [0x21#8, 0x22#8] ∧ totalBytes op w = some (if w.length < 3 then 3 else 3 + (le16 w 1).toNat)) ∨
    (op ∉ hostOpcodes ∧ totalBytes op w = none) := by
  unfold totalBytes
  split_ifs <;> simp_all [hostOpcodes]

/-- The shapes of the words that R100's table lists: the length each opcode needs, written out. -/
def ListedShape (w : List Byte) : Prop :=
  (w.length = 1 ∧ byteAt w 0 ∈ [0x01#8, 0x02#8, 0x03#8, 0x05#8, 0x06#8, 0x07#8, 0x11#8]) ∨
  (w.length = 9 ∧ byteAt w 0 = 0x04#8) ∨
  (w.length = 2 ∧ byteAt w 0 ∈ [0x10#8, 0x30#8]) ∨
  (7 ≤ w.length ∧ w.length = 7 + (byteAt w 6).toNat ∧ byteAt w 0 = 0x20#8) ∨
  (3 ≤ w.length ∧ w.length = 3 + (le16 w 1).toNat ∧ byteAt w 0 ∈ [0x21#8, 0x22#8])

theorem totalBytes_eq_length_iff (w : List Byte) :
    totalBytes (byteAt w 0) w = some w.length ↔ ListedShape w := by
  unfold ListedShape
  rcases totalBytes_cases (byteAt w 0) w with
    ⟨hop, ht⟩ | ⟨hop, ht⟩ | ⟨hop, ht⟩ | ⟨hop, ht⟩ | ⟨hop, ht⟩ | ⟨hop, ht⟩
  all_goals simp only [ht, Option.some_inj, eq_comm (b := w.length)]
  · simp only [List.mem_cons, List.not_mem_nil, or_false] at hop
    rcases hop with hop | hop | hop | hop | hop | hop | hop <;> simp [hop]
  · simp [hop]
  · simp only [List.mem_cons, List.not_mem_nil, or_false] at hop
    rcases hop with hop | hop <;> simp [hop]
  · split <;> simp [hop] <;> omega
  · simp only [List.mem_cons, List.not_mem_nil, or_false] at hop
    split <;> rcases hop with hop | hop <;> simp [hop] <;> omega
  · simp_all [hostOpcodes]

/-- A word is not rejected exactly when its length is the total of its opcode; the empty word is rejected (R102). -/
theorem rejection_eq_none_iff (w : List Byte) :
    rejection w = none ↔ totalBytes (byteAt w 0) w = some w.length := by
  cases w with
  | nil => decide
  | cons op ds =>
    rw [byteAt_cons_zero]
    cases ht : totalBytes op (op :: ds) with
    | none => simp [rejection, ht]
    | some n => simp [rejection, ht, eq_comm]

theorem mem_hostOpcodes_of_totalBytes {op : Byte} {w : List Byte} {n : Nat} (h : totalBytes op w = some n) :
    op ∈ hostOpcodes := by
  by_contra hop
  simp only [hostOpcodes, List.mem_cons, List.not_mem_nil, or_false, not_or] at hop
  simp [totalBytes, hop] at h

/-- The operands of an opcode in R100's table are read into its own operation, never into ILLEGAL. -/
theorem decodeLegal_ne_illegal {w : List Byte} (h : byteAt w 0 ∈ hostOpcodes) (v : List Byte) :
    decodeLegal w ≠ .illegal v := by
  simp only [hostOpcodes, List.mem_cons, List.not_mem_nil, or_false] at h
  rcases h with h | h | h | h | h | h | h | h | h | h | h | h | h <;> rw [decodeLegal, h] <;> nofun

theorem decode_eq_illegal_iff (w : List Byte) : decode w = .illegal w ↔ ¬ ListedShape w := by
  rw [← totalBytes_eq_length_iff, ← rejection_eq_none_iff]
  cases hr : rejection w with
  | none =>
    have hlegal : decodeLegal w ≠ .illegal w :=
      decodeLegal_ne_illegal (mem_hostOpcodes_of_totalBytes ((rejection_eq_none_iff w).mp hr)) w
    simpa [decode, hr] using hlegal
  | some d => simp [decode, hr]

/-- ILLEGAL written out: one count modulo the counter's width and one report, every other element as it was (R294). -/
theorem illegalOp_eq (s : State) (opcode : Option Byte) (detail : Option IllegalDetail) :
    s.illegalOp hw opcode detail =
      { s with
        cnt := { s.cnt with illegal := (s.cnt.illegal + 1) % 2 ^ 16 }
        out := s.out ++ [.report (.illegalOp opcode detail)] } := rfl

/-- A step that takes an illegal word performs ILLEGAL on it, with the reason of its rejection as the detail (R294, R296). -/
theorem step_illegal {s : State} {w : List Byte} {ws : List (List Byte)} (hp : s.pending = w :: ws)
    (hd : decode w = .illegal w) :
    step s = .next (State.illegalOp hw { s with pending := ws } w.head? (rejection w)) := by
  rw [step_word hp, hd]
  rfl

/-- Settles O24: a word is rejected exactly when it has none of the listed shapes, and ILLEGAL is all that a step then does. -/
theorem illegalWordsAreExactlyThoseNotListed : Obligations.IllegalWordsAreExactlyThoseNotListed := by
  refine ⟨decode_eq_illegal_iff, fun w ws s hp hd => ⟨rejection w, ?_⟩⟩
  rw [step_illegal hp hd, illegalOp_eq]

/-! ### Wire frames: where the bytes of an encoded frame stand -/

section frame

variable (alg : ChecksumAlg) (cmdId reserved : Half) (sequence : Byte) (payload : List Byte)

/-- The first seven bytes of a frame (R80). -/
theorem frameBytes_take_seven :
    (frameBytes alg cmdId reserved sequence payload).take 7 =
      [sync, lengthByte payload, txFlags, loByte cmdId, hiByte cmdId, loByte reserved, hiByte reserved] := rfl

/-- The sequence byte stands at offset 7 (R80). -/
theorem byteAt_frameBytes_sequence :
    byteAt (frameBytes alg cmdId reserved sequence payload) 7 = sequence := rfl

/-- The payload stands at offset 8 (R80). -/
theorem byteAt_frameBytes_payload {k : Nat} (hk : k < payload.length) :
    byteAt (frameBytes alg cmdId reserved sequence payload) (8 + k) = byteAt payload k := by
  rw [frameBytes, byteAt_append_left (by simpa using hk), frameBody, byteAt_append_right (by simp)]
  simp

theorem le16_frameBytes_payload {k : Nat} (hk : k + 1 < payload.length) :
    le16 (frameBytes alg cmdId reserved sequence payload) (8 + k) = le16 payload k := by
  simp only [le16, Nat.add_assoc, byteAt_frameBytes_payload alg cmdId reserved sequence payload hk,
    byteAt_frameBytes_payload alg cmdId reserved sequence payload (Nat.lt_of_succ_lt hk)]

/-- After the payload stands the checksum of every byte before it (R83). -/
theorem le16_frameBytes_checksum :
    le16 (frameBytes alg cmdId reserved sequence payload) (8 + payload.length) =
      checksum alg ((frameBytes alg cmdId reserved sequence payload).take (8 + payload.length)) := by
  set body := frameBody txFlags cmdId reserved sequence payload with hbody
  have hlen : 8 + payload.length = body.length := by simp [hbody]
  have hbytes : frameBytes alg cmdId reserved sequence payload = body ++ (le16bytes (checksum alg body) ++ []) := by
    simp [frameBytes, hbody]
  rw [hbytes, hlen, le16_append, List.take_left]

end frame

/-! ### The command payload, offset by offset -/

section payload

variable (P : Params) (armed : Bool) (t : Throttles) (st : Byte) (ctr : Half)

@[simp] theorem le16_buildA021_thr0 : le16 (buildA021 P armed t st ctr) 2 = t.t0 := ofLoHi_loByte_hiByte _
@[simp] theorem le16_buildA021_thr1 : le16 (buildA021 P armed t st ctr) 6 = t.t1 := ofLoHi_loByte_hiByte _
@[simp] theorem le16_buildA021_thr2 : le16 (buildA021 P armed t st ctr) 8 = t.t2 := ofLoHi_loByte_hiByte _
@[simp] theorem le16_buildA021_thr3 : le16 (buildA021 P armed t st ctr) 10 = t.t3 := ofLoHi_loByte_hiByte _
@[simp] theorem byteAt_buildA021_arm : byteAt (buildA021 P armed t st ctr) 15 = armByte armed := rfl
@[simp] theorem le16_buildA021_counter : le16 (buildA021 P armed t st ctr) 16 = ctr := ofLoHi_loByte_hiByte _
@[simp] theorem byteAt_buildA021_state : byteAt (buildA021 P armed t st ctr) 22 = st := rfl

/-- The payload offsets that R87 preserves from the template. -/
def preservedOffsets : List Nat := [0, 1, 4, 5, 12, 13, 14, 18, 19, 20, 21, 23, 24, 25]

theorem lt_of_mem_preservedOffsets {k : Nat} (hk : k ∈ preservedOffsets) : k < 26 := by
  revert k; decide

theorem byteAt_toList {n k : Nat} (v : Vector Byte n) (hk : k < n) : byteAt v.toList k = v[k] := by
  simp [byteAt, hk]

/-- The preserved offsets hold the template's bytes (R87, R191). -/
theorem byteAt_buildA021_preserved {k : Nat} (hk : k ∈ preservedOffsets) :
    byteAt (buildA021 P armed t st ctr) k = byteAt P.a021Template.toList k := by
  rw [byteAt_toList _ (lt_of_mem_preservedOffsets hk)]
  simp only [preservedOffsets, List.mem_cons, List.not_mem_nil, or_false] at hk
  rcases hk with rfl | rfl | rfl | rfl | rfl | rfl | rfl | rfl | rfl | rfl | rfl | rfl | rfl | rfl <;> rfl

end payload

/-! ### The frame that TICK sends -/

/-- TICK sends the command frame of the state before it, ahead of any other record (R242, R256). -/
theorem exec_tick_sends {s : State} (hr : s.released = false) (hp : s.phase ≠ .disarmed) :
    ∃ (rs : List Record) (t : State), exec .tick s = .next t ∧ t.out = s.out ++ .tx (s.commandFrame hw) :: rs := by
  have hexec : exec .tick s = .next (s.tick hw) := exec_eq_afterInstr .tick s
  rcases s.tick_cases hw with ⟨hsilent, _⟩ | ⟨_, _, ht⟩ | ⟨_, _, _, ht⟩ | ⟨_, _, _, ht⟩ | ⟨_, _, _, _, ht⟩ | ⟨_, _, _, _, ht⟩
  · simp [hr, hp] at hsilent
  · exact ⟨[], _, hexec, by simp [ht]⟩
  · exact ⟨[], _, hexec, by simp [ht]⟩
  · exact ⟨[], _, hexec, by simp [ht]⟩
  · exact ⟨[], _, hexec, by simp [ht]⟩
  · exact ⟨(if s.xerr then [.report .transportIOError] else []) ++ [.released s.xerr], _, hexec, by simp [ht]⟩

/-- The arm byte of a phase: on in Arming and Armed, off in Disarming (R24, R194). -/
theorem armByte_of_arming_or_armed {s : State} (h : s.phase = .arming ∨ s.phase = .armed) :
    armByte s.armed = 0x80#8 := by
  rcases h with h | h <;> simp [State.armed, h, Phase.armedBit, armByte]

theorem armByte_of_disarming {s : State} (h : s.phase = .disarming) : armByte s.armed = 0x00#8 := by
  simp [State.armed, h, Phase.armedBit, armByte]

section command

variable (P : Params) (s : State)

@[simp] theorem commandPayload_length : (s.commandPayload P).length = 26 := buildA021_length ..

@[simp] theorem commandFrame_length : (s.commandFrame P).length = 36 := by
  simp [State.commandFrame]

/-- The header of the command frame: its length byte is `8 + 26 = 34` (R86). -/
theorem commandFrame_take_seven :
    (s.commandFrame P).take 7 = [0x55#8, 0x22#8, 0x00#8, 0x21#8, 0xA0#8, 0x01#8, 0x00#8] := by
  have hlen : lengthByte (s.commandPayload P) = 0x22#8 := by simp [lengthByte, hdrLen]
  rw [State.commandFrame, frameBytes_take_seven, hlen]
  rfl

theorem byteAt_commandFrame_payload {k : Nat} (hk : k < 26) :
    byteAt (s.commandFrame P) (8 + k) = byteAt (s.commandPayload P) k :=
  byteAt_frameBytes_payload _ _ _ _ _ (by simpa using hk)

theorem le16_commandFrame_payload {k : Nat} (hk : k + 1 < 26) :
    le16 (s.commandFrame P) (8 + k) = le16 (s.commandPayload P) k :=
  le16_frameBytes_payload _ _ _ _ _ (by simpa using hk)

theorem le16_commandFrame_checksum :
    le16 (s.commandFrame P) 34 = checksum P.checksumAlg ((s.commandFrame P).take 34) := by
  simpa [State.commandFrame] using
    le16_frameBytes_checksum P.checksumAlg cmdA021 txReserved s.txseq (s.commandPayload P)

end command

/-- Settles O8: the frame is the command frame of `s`, and each field is read at its offset in the frame or its payload. -/
theorem tickFrameHasTheCommandLayout : Obligations.TickFrameHasTheCommandLayout := by
  intro s hr hp
  obtain ⟨rs, t, hexec, hout⟩ := exec_tick_sends hr hp
  have arm : byteAt (s.commandFrame hw) 23 = armByte s.armed := byteAt_commandFrame_payload hw s (k := 15) (by decide)
  refine ⟨s.commandFrame hw, rs, t, hexec, hout, commandFrame_length hw s, commandFrame_take_seven hw s,
    byteAt_frameBytes_sequence .., ?thr0, ?thr1, ?thr2, ?thr3, ?armOn, ?armOff, ?counter, ?stateByte, ?template,
    le16_commandFrame_checksum hw s⟩
  case thr0 => exact (le16_commandFrame_payload hw s (k := 2) (by decide)).trans (le16_buildA021_thr0 ..)
  case thr1 => exact (le16_commandFrame_payload hw s (k := 6) (by decide)).trans (le16_buildA021_thr1 ..)
  case thr2 => exact (le16_commandFrame_payload hw s (k := 8) (by decide)).trans (le16_buildA021_thr2 ..)
  case thr3 => exact (le16_commandFrame_payload hw s (k := 10) (by decide)).trans (le16_buildA021_thr3 ..)
  case armOn => exact fun h => arm.trans (armByte_of_arming_or_armed h)
  case armOff => exact fun h => arm.trans (armByte_of_disarming h)
  case counter => exact (le16_commandFrame_payload hw s (k := 16) (by decide)).trans (le16_buildA021_counter ..)
  case stateByte => exact (byteAt_commandFrame_payload hw s (k := 22) (by decide)).trans (byteAt_buildA021_state ..)
  case template =>
    intro k hk
    rw [byteAt_commandFrame_payload hw s (lt_of_mem_preservedOffsets hk)]
    exact byteAt_buildA021_preserved _ _ _ _ _ hk

end Sys2Proof.Encoding
end

section
/-! PROOFS. The codec operations (40_codec.md): what ENCODE and DECODE answer, case by case, each in one RESULT (R130..R134,
R140, R142). -/

namespace Sys2Proof.CodecOps

open Sys2Proof.Machine

/-! ### ENCODE -/

section encode

variable (alg : ChecksumAlg) (cmdId reserved : Half) (sequence : Byte) (payload : List Byte)

/-- The body that `encode` builds, its header bytes written out (R80, R130). -/
theorem frameBody_txFlags :
    frameBody txFlags cmdId reserved sequence payload =
      [0x55#8, BitVec.ofNat 8 (8 + payload.length), 0x00#8, loByte cmdId, hiByte cmdId, loByte reserved, hiByte reserved,
        sequence] ++ payload := rfl

/-- ENCODE emits its RESULT and changes nothing else (R140). -/
theorem exec_encode (s : State) :
    exec (.encode cmdId reserved sequence payload) s =
      .next { s with out := s.out ++ [.result (encodeResult .crc16R cmdId reserved sequence payload)] } :=
  exec_eq_afterInstr _ s

variable {payload}

theorem encodeResult_of_le (h : payload.length ≤ 247) :
    encodeResult alg cmdId reserved sequence payload = .ok (.bytes (frameBytes alg cmdId reserved sequence payload)) := by
  rw [encodeResult, encodeFrame, if_neg (Nat.not_lt.mpr h)]

theorem encodeResult_of_lt (h : 247 < payload.length) :
    encodeResult alg cmdId reserved sequence payload = .err (.payloadTooLarge payload.length) := by
  rw [encodeResult, encodeFrame, if_pos h]

end encode

/-- Settles O12: the RESULT split at the payload bound of R130, and its frame with the header bytes written out. -/
theorem encodeReturnsTheFrameOrPayloadTooLarge : Obligations.EncodeReturnsTheFrameOrPayloadTooLarge := by
  intro cmdId reserved sequence payload s b c
  have hframe : frameBytes .crc16R cmdId reserved sequence payload = b ++ [loByte c, hiByte c] := by
    simp only [frameBytes, frameBody_txFlags, le16bytes, b, c]
  constructor
  · intro hfits
    rw [exec_encode, encodeResult_of_le _ _ _ _ hfits, hframe]
  · intro htooLarge
    rw [exec_encode, encodeResult_of_lt _ _ _ _ htooLarge]

/-! ### DECODE -/

/-- DECODE emits its RESULT and changes nothing else (R142). -/
theorem exec_decode (d : List Byte) (s : State) :
    exec (.decode d) s = .next { s with out := s.out ++ [.result (decodeResult .crc16R d)] } :=
  exec_eq_afterInstr _ s

/-- DECODE reports the error that `decode` raises (R142). -/
theorem exec_decode_of_error {d : List Byte} {e : DecodeError} (s : State) (h : decodeFrame .crc16R d = .error e) :
    exec (.decode d) s = .next { s with out := s.out ++ [.result (.err (.decoding e))] } := by
  rw [exec_decode, decodeResult, h]

/-- DECODE hands over the frame that `decode` returns (R142). -/
theorem exec_decode_of_ok {d : List Byte} {fr : Frame} (s : State) (h : decodeFrame .crc16R d = .ok fr) :
    exec (.decode d) s = .next { s with out := s.out ++ [.result (.ok (.frame fr))] } := by
  rw [exec_decode, decodeResult, h]

/-- Settles O13: of the five cases of `decode`, each meets the hypotheses of its own clause and of no other. -/
theorem decodeReturnsTheFirstErrorOrTheFrame : Obligations.DecodeReturnsTheFirstErrorOrTheFrame := by
  intro d s
  dsimp only
  rcases decodeFrame_cases .crc16R d with ⟨hshort, hd⟩ | ⟨hlen, hbad, hd⟩ | ⟨hlen, hsync, hmismatch, hd⟩ |
    ⟨hlen, hsync, hmin, hfits, hne, hd⟩ | ⟨hlen, hsync, hmin, hfits, heq, hd⟩
  · exact ⟨fun _ => exec_decode_of_error s hd, by omega, by omega, by omega, by omega⟩
  · exact ⟨by omega, fun _ _ => exec_decode_of_error s hd, fun _ hsync => absurd hsync hbad,
      fun hsync => absurd hsync hbad, fun hsync => absurd hsync hbad⟩
  · exact ⟨by omega, fun _ hbad => absurd hsync hbad, fun _ _ _ => exec_decode_of_error s hd, by omega, by omega⟩
  · exact ⟨by omega, fun _ hbad => absurd hsync hbad, by omega, fun _ _ _ _ => exec_decode_of_error s hd,
      fun _ _ _ heq => absurd heq hne⟩
  · exact ⟨by omega, fun _ hbad => absurd hsync hbad, by omega, fun _ _ _ hne => absurd heq hne,
      fun _ _ _ _ => exec_decode_of_ok s hd⟩

end Sys2Proof.CodecOps
end

section
/-! PROOFS. The frame synchronizer (41_framer.md): SCAN satisfies the equation of each branch of R160's loop, and so it is the one
state that the unbounded loop returns in (R160..R166, R170, R172). -/

namespace Sys2Proof.Framer

open Sys2Proof.Machine

variable {P : Params} {final : Bool} {s : State}

/-! ### The branches of a pass, each with the state it leaves written out -/

/-- A candidate at a sync byte is incomplete exactly when its length byte or some later byte of it is missing (R162). -/
theorem incomplete_sync_iff {rx : List Byte} (head : s.rxb = sync :: rx) :
    incomplete s.rxb = true ↔ rx = [] ∨ s.rxb.length < (byteAt s.rxb 1).toNat + 2 := by
  cases rx <;> simp [incomplete, head]

theorem discard_eq {b : Byte} {rx : List Byte} (head : s.rxb = b :: rx) :
    (s.dropRx 1).count P .discard =
      { s with rxb := rx, cnt := { s.cnt with discard := (s.cnt.discard + 1) % 2 ^ P.cntW } } := by
  simp [State.count, State.dropRx, Counters.bump, countUp, head]

/-- The length byte that Truncated reports is the byte after the sync byte, where there is one (R166). -/
theorem truncated_eq {rx : List Byte} (head : s.rxb = sync :: rx) :
    s.truncated P =
      { s with
        rxb := rx
        cnt := { s.cnt with
          truncated := (s.cnt.truncated + 1) % 2 ^ P.cntW
          resync := (s.cnt.resync + 1) % 2 ^ P.cntW }
        out := s.out ++ [.report (.truncated s.rxb.length rx.head?)] } := by
  cases rx <;> simp [State.truncated, State.emit, State.count, State.dropRx, Counters.bump, countUp, head, byteAt]

theorem accept_eq (fr : Frame) (n : Nat) :
    s.accept P fr n =
      { State.route P { s with cnt := { s.cnt with rxOk := (s.cnt.rxOk + 1) % 2 ^ P.cntW } } fr with
        rxb := s.rxb.drop n } := by
  simp [State.accept, State.dropRx, State.count, Counters.bump, countUp]

theorem rejectCandidate_eq {rx : List Byte} (head : s.rxb = sync :: rx) (e : DecodeError) :
    s.rejectCandidate P e =
      { s with rxb := rx, cnt := countRejection P s.cnt e, out := s.out ++ [.report (.decoding e)] } := by
  simp [State.rejectCandidate, State.emit, State.count, State.dropRx, countRejection_eq_bump, head]

/-! ### SCAN's equation in each branch of the loop -/

theorem scan_of_stop {t : State} (h : s.scanPass P final = .stop t) : s.scan P final = t := by
  rw [State.scan_eq, h]

theorem scan_of_again {t : State} (h : s.scanPass P final = .again t) : s.scan P final = t.scan P final := by
  rw [State.scan_eq, h]

theorem scanPass_of_sync {rx : List Byte} (head : s.rxb = sync :: rx) :
    s.scanPass P final = s.candidatePass P final := by
  simp [State.scanPass, State.skipToSync, head]

theorem scan_of_empty (drained : s.rxb = []) : s.scan P final = s :=
  scan_of_stop (by simp [State.scanPass, State.skipToSync, State.candidatePass, drained])

/-- Removing one byte that is no sync byte is the first round of the inner loop, so the pass goes on as from the state after it
(R161). -/
theorem scan_of_noSync {b : Byte} {rx : List Byte} (head : s.rxb = b :: rx) (noSync : b ≠ sync) :
    s.scan P final =
      State.scan P final
        { s with rxb := rx, cnt := { s.cnt with discard := (s.cnt.discard + 1) % 2 ^ P.cntW } } := by
  rw [← discard_eq head]
  have hpass : s.scanPass P final = ((s.dropRx 1).count P .discard).scanPass P final := by
    simp [State.scanPass, State.skipToSync, head, noSync]
  rw [State.scan_eq, hpass, ← State.scan_eq]

section candidate

variable {rx : List Byte} (head : s.rxb = sync :: rx)
include head

theorem isEmpty_rxb_of_sync : s.rxb.isEmpty = false := by rw [head, List.isEmpty_cons]

theorem scan_of_incomplete_stream (short : rx = [] ∨ s.rxb.length < (byteAt s.rxb 1).toNat + 2) :
    s.scan P false = s := by
  have hi := (incomplete_sync_iff head).mpr short
  apply scan_of_stop
  simp [scanPass_of_sync head, State.candidatePass, isEmpty_rxb_of_sync head, hi]

theorem scan_of_incomplete_flush (short : rx = [] ∨ s.rxb.length < (byteAt s.rxb 1).toNat + 2) :
    s.scan P true =
      State.scan P true
        { s with
          rxb := rx
          cnt := { s.cnt with
            truncated := (s.cnt.truncated + 1) % 2 ^ P.cntW
            resync := (s.cnt.resync + 1) % 2 ^ P.cntW }
          out := s.out ++ [.report (.truncated s.rxb.length rx.head?)] } := by
  have hi := (incomplete_sync_iff head).mpr short
  rw [← truncated_eq head]
  apply scan_of_again
  simp [scanPass_of_sync head, State.candidatePass, isEmpty_rxb_of_sync head, hi]

section complete

variable (more : rx ≠ []) (whole : (byteAt s.rxb 1).toNat + 2 ≤ s.rxb.length)
include more whole

theorem incomplete_eq_false_of_whole : incomplete s.rxb = false := by
  rw [← Bool.not_eq_true, incomplete_sync_iff head]
  simpa [more] using whole

theorem scan_of_good {fr : Frame}
    (good : decodeFrame P.checksumAlg (s.rxb.take ((byteAt s.rxb 1).toNat + 2)) = .ok fr) :
    s.scan P final =
      State.scan P final
        { State.route P { s with cnt := { s.cnt with rxOk := (s.cnt.rxOk + 1) % 2 ^ P.cntW } } fr with
          rxb := s.rxb.drop ((byteAt s.rxb 1).toNat + 2) } := by
  have hi := incomplete_eq_false_of_whole head more whole
  rw [← accept_eq]
  apply scan_of_again
  simp [scanPass_of_sync head, State.candidatePass, isEmpty_rxb_of_sync head, hi, good]

theorem scan_of_bad {e : DecodeError}
    (bad : decodeFrame P.checksumAlg (s.rxb.take ((byteAt s.rxb 1).toNat + 2)) = .error e) :
    s.scan P final =
      State.scan P final
        { s with rxb := rx, cnt := countRejection P s.cnt e, out := s.out ++ [.report (.decoding e)] } := by
  have hi := incomplete_eq_false_of_whole head more whole
  rw [← rejectCandidate_eq head]
  apply scan_of_again
  simp [scanPass_of_sync head, State.candidatePass, isEmpty_rxb_of_sync head, hi, bad]

end complete

end candidate

/-! ### The unbounded loop -/

/-- The loop returns nowhere but in SCAN's result: along its rounds, each is SCAN's equation in that branch. -/
theorem eq_scan_of_scanLoop {t : State} (h : ScanLoop P final s t) : t = s.scan P final := by
  induction h with
  | discard head noSync _ ih => rw [ih, scan_of_noSync head noSync]
  | empty drained => rw [scan_of_empty drained]
  | wait stream head short => rw [stream, scan_of_incomplete_stream head short]
  | cut flush head short _ ih => rw [ih, flush, scan_of_incomplete_flush head short]
  | accept head more whole good _ ih => rw [ih, scan_of_good head more whole good]
  | reject head more whole bad _ ih => rw [ih, scan_of_bad head more whole bad]

/-- The loop does return, in SCAN's result: each round that goes on removes at least one byte (R169). -/
theorem scanLoop_scan (P : Params) (final : Bool) (s : State) : ScanLoop P final s (s.scan P final) := by
  induction hn : s.rxb.length using Nat.strongRecOn generalizing s with
  | ind n ih =>
    cases head : s.rxb with
    | nil => rw [scan_of_empty head]; exact .empty head
    | cons b rx =>
      have hshorter : rx.length < n := by simp [← hn, head]
      by_cases noSync : b ≠ sync
      · rw [scan_of_noSync head noSync]
        exact .discard head noSync (ih _ hshorter _ rfl)
      · rw [not_not.mp noSync] at head
        by_cases short : rx = [] ∨ s.rxb.length < (byteAt s.rxb 1).toNat + 2
        · cases final with
          | false => rw [scan_of_incomplete_stream head short]; exact .wait rfl head short
          | true =>
            rw [scan_of_incomplete_flush head short]
            exact .cut rfl head short (ih _ hshorter _ rfl)
        · obtain ⟨more, hwhole⟩ := not_or.mp short
          have whole := Nat.not_lt.mp hwhole
          cases hd : decodeFrame P.checksumAlg (s.rxb.take ((byteAt s.rxb 1).toNat + 2)) with
          | ok fr =>
            rw [scan_of_good head more whole hd]
            refine .accept head more whole hd (ih _ ?_ _ rfl)
            rw [List.length_drop]
            omega
          | error e =>
            rw [scan_of_bad head more whole hd]
            exact .reject head more whole hd (ih _ hshorter _ rfl)

theorem scanLoop_iff_eq_scan (P : Params) (final : Bool) (s t : State) :
    ScanLoop P final s t ↔ t = s.scan P final :=
  ⟨eq_scan_of_scanLoop, fun h => h ▸ scanLoop_scan P final s⟩

/-- Settles O9: RX_BYTE runs SCAN with the byte appended, RX_FLUSH runs it as the buffer stands, and SCAN's result is the one
state that the loop returns in. -/
theorem receivingRunsTheScanLoop : Obligations.ReceivingRunsTheScanLoop :=
  ⟨fun b s => ⟨_, exec_eq_afterInstr (.rxByte b) s, scanLoop_iff_eq_scan hw false (s.pushRx b)⟩,
    fun s => ⟨_, exec_eq_afterInstr .rxFlush s, scanLoop_iff_eq_scan hw true s⟩⟩

end Sys2Proof.Framer
end

section
/-! PROOFS. The router (43_router.md): what each FRAME row appends to OUT, split at the payload length that its format needs
(R212, R214..R216). -/

namespace Sys2Proof.Router

open Sys2Proof.Machine

variable {fr : Frame} (s : State)

/-- SHORT written out: the RX record before the report, one count between them, every other element as it was (R216). -/
theorem shortPayload_eq (fr : Frame) (need : Nat) :
    s.shortPayload hw fr need =
      { s with
        cnt := { s.cnt with shortPayload := (s.cnt.shortPayload + 1) % 2 ^ 16 }
        out := s.out ++ [.rx fr .shortPayload, .report (.shortPayload fr.cmdId fr.payload.length need)] } := by
  simp [State.shortPayload, State.emit, State.count, Counters.bump, countUp, hw]

/-! ### Telemetry -/

/-- The `i`th value of a telemetry frame is read at payload offset `2 i` (R212). -/
theorem telemRoute_eq_ofFn (fr : Frame) :
    telemRoute fr = .telem fr.sequence (Vector.ofFn fun i : Fin 8 => le16 fr.payload (2 * i.val)) := rfl

theorem routeTelem_of_le (h : 16 ≤ fr.payload.length) :
    s.routeTelem hw fr = s.emit (.rx fr (telemRoute fr)) := by
  rw [State.routeTelem, if_neg (Nat.not_lt.mpr h)]

theorem routeTelem_of_lt (h : fr.payload.length < 16) : s.routeTelem hw fr = s.shortPayload hw fr 16 := by
  rw [State.routeTelem, if_pos h]

/-- Settles O18: a telemetry frame long enough is split at every second offset, and a shorter one goes to SHORT with 16. -/
theorem telemetryFrameIsRoutedByItsLength : Obligations.TelemetryFrameIsRoutedByItsLength := by
  intro flags reserved sequence p cs s fr
  have hexec : exec (.frameA0d0 flags reserved sequence p cs) s = .next (s.routeTelem hw fr) := exec_eq_afterInstr _ s
  constructor
  · intro hfits
    refine ⟨Vector.ofFn fun i => le16 p (2 * i.val), fun i => Vector.getElem_ofFn i.isLt, ?_⟩
    rw [hexec, routeTelem_of_le s hfits, telemRoute_eq_ofFn, State.emit]
  · intro hshort
    rw [hexec, routeTelem_of_lt s hshort, shortPayload_eq]

/-! ### Command feedback -/

theorem routeFeedback_of_le (h : 26 ≤ fr.payload.length) :
    s.routeFeedback hw fr = s.emit (.rx fr (feedbackRoute fr)) := by
  rw [State.routeFeedback, if_neg (Nat.not_lt.mpr h)]

theorem routeFeedback_of_lt (h : fr.payload.length < 26) : s.routeFeedback hw fr = s.shortPayload hw fr 26 := by
  rw [State.routeFeedback, if_pos h]

/-- Settles O19: a feedback frame long enough is split at R214's offsets, its arm byte compared with `0x80`, and a shorter one
goes to SHORT with 26. -/
theorem feedbackFrameIsRoutedByItsLength : Obligations.FeedbackFrameIsRoutedByItsLength := by
  intro flags reserved sequence p cs s fr
  have hexec : exec (.frameA021 flags reserved sequence p cs) s = .next (s.routeFeedback hw fr) := exec_eq_afterInstr _ s
  constructor
  · intro hfits
    refine ⟨byteAt p 15 == armOn, beq_iff_eq, ?_⟩
    rw [hexec, routeFeedback_of_le s hfits, feedbackRoute, State.emit]
  · intro hshort
    rw [hexec, routeFeedback_of_lt s hshort, shortPayload_eq]

/-! ### Any other frame -/

/-- Settles O20: the remaining case of ROUTE is one emission, so OUT is all that FRAME_OTHER writes. -/
theorem otherFrameIsEmittedOpaque : Obligations.OtherFrameIsEmittedOpaque := by
  intro fr s
  calc exec (.frameOther fr) s
      = .next (s.routeOther fr) := exec_eq_afterInstr _ s
    _ = .next { s with out := s.out ++ [.rx fr .other] } := by rw [State.routeOther, State.emit]

end Sys2Proof.Router
end

section
/-! PROOFS. The command state machine (44_scheduler.md): what each of its six operations does in each phase, before and after a
release (R244..R264). -/

namespace Sys2Proof.Scheduler

open Sys2Proof.Machine

variable (P : Params) {s : State}

/-! ### What the operations share, with the state it leaves written out -/

/-- IGNORE written out: one count modulo the counter's width and one report, every other element as it was (R264). -/
theorem ignore_eq (s : State) (op : Byte) :
    s.ignore hw op =
      { s with
        cnt := { s.cnt with ignored := (s.cnt.ignored + 1) % 2 ^ 16 }
        out := s.out ++ [.report (.opIgnored op s.phase s.released)] } := rfl

/-- RELEASE written out: one record, or two where a transport error is on its way out (R262). -/
theorem release_eq (s : State) :
    s.release =
      { s with
        released := true
        relPend := false
        out := s.out ++ (if s.xerr then [.report .transportIOError, .released true] else [.released false]) } := by
  cases h : s.xerr <;> simp [State.release, State.emit, h]

theorem teardown_of_disarmed (hp : s.phase = .disarmed) : s.teardown P = s.release := by
  simpa [hp] using s.teardown_cases P

theorem teardown_of_arming_or_armed (hp : s.phase = .arming ∨ s.phase = .armed) :
    s.teardown P = { s.enterDisarming P with relPend := true } := by
  rcases hp with hp | hp <;> simpa [hp] using s.teardown_cases P

theorem teardown_of_disarming (hp : s.phase = .disarming) : s.teardown P = { s with relPend := true } := by
  simpa [hp] using s.teardown_cases P

/-! ### ARM, DISARM and SET_THROTTLE -/

theorem arm_of_disarmed (hr : s.released = false) (hp : s.phase = .disarmed) :
    s.arm P = { s with phase := .arming, burst := 0, thr := P.idleThrottle } :=
  if_neg (by simp [hr, hp])

theorem arm_of_refused (h : s.released = true ∨ s.phase ≠ .disarmed) : s.arm P = s.ignore P opArm :=
  if_pos (by simpa using h)

/-- Settles O2: the guard of R244, either way, over IGNORE written out. -/
theorem armEntersArmingOrIsIgnored : Obligations.ArmEntersArmingOrIsIgnored := by
  intro s
  have hexec : exec .arm s = .next (s.arm hw) := exec_eq_afterInstr .arm s
  constructor
  · rintro ⟨hr, hp⟩
    rw [hexec, arm_of_disarmed hw hr hp]
  · intro h
    rw [hexec, arm_of_refused hw h, ignore_eq]

theorem disarm_of_arming_or_armed (hr : s.released = false) (hp : s.phase = .arming ∨ s.phase = .armed) :
    s.disarm P = s.enterDisarming P :=
  if_neg (by rcases hp with hp | hp <;> simp [hr, hp])

theorem disarm_of_refused (h : s.released = true ∨ s.phase = .disarmed ∨ s.phase = .disarming) :
    s.disarm P = s.ignore P opDisarm :=
  if_pos (by simpa [or_assoc] using h)

/-- Settles O3: the guard of R248, either way, over ENTER_DISARMING (R246) and IGNORE written out. -/
theorem disarmEntersDisarmingOrIsIgnored : Obligations.DisarmEntersDisarmingOrIsIgnored := by
  intro s
  have hexec : exec .disarm s = .next (s.disarm hw) := exec_eq_afterInstr .disarm s
  constructor
  · rintro ⟨hr, hp⟩
    rw [hexec, disarm_of_arming_or_armed hw hr hp, State.enterDisarming]
  · intro h
    rw [hexec, disarm_of_refused hw h, ignore_eq]

theorem setThrottle_of_armed (t : Throttles) (hr : s.released = false) (hp : s.phase = .armed) :
    s.setThrottle P t = { s with thr := t } :=
  if_neg (by simp [hr, hp])

theorem setThrottle_of_refused (t : Throttles) (h : s.released = true ∨ s.phase ≠ .armed) :
    s.setThrottle P t = s.ignore P opSetThrottle :=
  if_pos (by simpa using h)

/-- Settles O4: the guard of R250, either way; the operands enter the file as they are. -/
theorem setThrottleWritesTheFileOnlyInArmed : Obligations.SetThrottleWritesTheFileOnlyInArmed := by
  intro t0 t1 t2 t3 s
  have hexec : exec (.setThrottle t0 t1 t2 t3) s = .next (s.setThrottle hw ⟨t0, t1, t2, t3⟩) := exec_eq_afterInstr _ s
  constructor
  · rintro ⟨hr, hp⟩
    rw [hexec, setThrottle_of_armed hw _ hr hp]
  · intro h
    rw [hexec, setThrottle_of_refused hw _ h, ignore_eq]

/-! ### ABORT and TRANSPORT_ERROR -/

theorem abort_of_released (hr : s.released = true) : s.abort P = s.ignore P opAbort :=
  if_pos hr

theorem abort_of_not_released (hr : s.released = false) : s.abort P = s.teardown P :=
  if_neg (by simp [hr])

/-- Settles O5: before a release ABORT is the shared teardown, phase by phase. -/
theorem abortTearsDownByPhase : Obligations.AbortTearsDownByPhase := by
  intro s
  have hexec : exec .abort s = .next (s.abort hw) := exec_eq_afterInstr .abort s
  refine ⟨?released, ?disarmed, ?driving, ?disarming⟩
  case released =>
    intro hr
    rw [hexec, abort_of_released hw hr, ignore_eq, hr]
  case disarmed =>
    rintro ⟨hr, hp⟩
    rw [hexec, abort_of_not_released hw hr, teardown_of_disarmed hw hp, release_eq]
  case driving =>
    rintro ⟨hr, hp⟩
    rw [hexec, abort_of_not_released hw hr, teardown_of_arming_or_armed hw hp, State.enterDisarming]
  case disarming =>
    rintro ⟨hr, hp⟩
    rw [hexec, abort_of_not_released hw hr, teardown_of_disarming hw hp]

theorem transportError_of_released (hr : s.released = true) : s.transportError P = s.ignore P opTransportError :=
  if_pos hr

/-- XERR is set before the phase is looked at, so a release performed at once already sees it (R254, R262). -/
theorem transportError_of_not_released (hr : s.released = false) :
    s.transportError P = { s with xerr := true }.teardown P :=
  if_neg (by simp [hr])

/-- Settles O6: before a release TRANSPORT_ERROR is the shared teardown of the state with XERR set, so a release there reports
the error. -/
theorem transportErrorTearsDownByPhase : Obligations.TransportErrorTearsDownByPhase := by
  intro s
  have hexec : exec .transportError s = .next (s.transportError hw) := exec_eq_afterInstr .transportError s
  refine ⟨?released, ?disarmed, ?driving, ?disarming⟩
  case released =>
    intro hr
    rw [hexec, transportError_of_released hw hr, ignore_eq, hr]
  case disarmed =>
    rintro ⟨hr, hp⟩
    rw [hexec, transportError_of_not_released hw hr, teardown_of_disarmed hw (s := { s with xerr := true }) hp, release_eq,
      if_pos rfl]
  case driving =>
    rintro ⟨hr, hp⟩
    rw [hexec, transportError_of_not_released hw hr, teardown_of_arming_or_armed hw (s := { s with xerr := true }) hp,
      State.enterDisarming]
  case disarming =>
    rintro ⟨hr, hp⟩
    rw [hexec, transportError_of_not_released hw hr, teardown_of_disarming hw (s := { s with xerr := true }) hp]

/-! ### TICK: in each phase and burst position one case of `State.tick_cases` remains -/

/-- Before the frame is built TICK returns, with no ignored operation (R256). -/
theorem tick_of_silent (h : s.released = true ∨ s.phase = .disarmed) : s.tick P = s :=
  if_pos (by simpa using h)

section sending

variable (hr : s.released = false)
include hr

theorem tick_of_armed (hp : s.phase = .armed) : s.tick P = s.sendFrame P := by
  simpa [hr, hp] using s.tick_cases P

theorem tick_within_burst (hp : s.phase = .arming ∨ s.phase = .disarming) (hb : s.burst + 1 ≠ P.burstLen) :
    s.tick P = { s.sendFrame P with burst := s.burst + 1 } := by
  rcases hp with hp | hp <;> simpa [hr, hp, hb] using s.tick_cases P

theorem tick_ends_arming (hp : s.phase = .arming) (hb : s.burst + 1 = P.burstLen) :
    s.tick P = { s.sendFrame P with burst := 0, phase := .armed } := by
  simpa [hr, hp, hb] using s.tick_cases P

theorem tick_ends_disarming (hp : s.phase = .disarming) (hb : s.burst + 1 = P.burstLen) (hq : s.relPend = false) :
    s.tick P = { s.sendFrame P with burst := 0, phase := .disarmed } := by
  simpa [hr, hp, hb, hq] using s.tick_cases P

theorem tick_ends_disarming_and_releases (hp : s.phase = .disarming) (hb : s.burst + 1 = P.burstLen)
    (hq : s.relPend = true) :
    s.tick P = { s.sendFrame P with burst := 0, phase := .disarmed }.release := by
  simpa [hr, hp, hb, hq] using s.tick_cases P

end sending

/-- Settles O7: the frame goes out from the state before the transition, and each case of the burst steps the state it leaves;
the release of the last case appends its records after the frame. -/
theorem tickSendsOneFrameAndStepsTheBurst : Obligations.TickSendsOneFrameAndStepsTheBurst := by
  intro s f sent
  have hexec : exec .tick s = .next (s.tick hw) := exec_eq_afterInstr .tick s
  have hsent : s.sendFrame hw = sent := rfl
  refine ⟨?silent, ?armed, ?withinBurst, ?endsArming, ?endsDisarming, ?releases⟩
  case silent =>
    intro h
    rw [hexec, tick_of_silent hw h]
  case armed =>
    rintro ⟨hr, hp⟩
    rw [hexec, tick_of_armed hw hr hp, hsent]
  case withinBurst =>
    rintro ⟨hr, hp, hb⟩
    rw [hexec, tick_within_burst hw hr hp hb, hsent]
  case endsArming =>
    rintro ⟨hr, hp, hb⟩
    rw [hexec, tick_ends_arming hw hr hp hb, hsent]
  case endsDisarming =>
    rintro ⟨hr, hp, hb, hq⟩
    rw [hexec, tick_ends_disarming hw hr hp hb hq, hsent]
  case releases =>
    rintro ⟨hr, hp, hb, hq⟩
    rw [hexec, tick_ends_disarming_and_releases hw hr hp hb hq, hsent, release_eq]

end Sys2Proof.Scheduler
end

section
/-! PROOFS. The host control (45_host_control.md): what READ_REG returns of each register of R40's map, and what ILLEGAL does
(R292, R294). -/

namespace Sys2Proof.HostControl

open Sys2Proof.Machine

/-! ### STATUS as a number: its bits stand at places of their own -/

theorem bitAt_toNat {i : Nat} (b : Bool) (hi : i < 8) : (bitAt b i).toNat = 2 ^ i * b.toNat := by
  have hfits : 2 ^ i < 2 ^ 8 := Nat.pow_lt_pow_right (by decide) hi
  cases b
  · simp [bitAt]
  · simpa [bitAt, Nat.shiftLeft_eq] using hfits

/-- A bit set above all that is there so far adds its weight. -/
theorem toNat_or_bitAt {x : Byte} {i : Nat} (b : Bool) (hx : x.toNat < 2 ^ i) (hi : i < 8) :
    (x ||| bitAt b i).toNat = x.toNat + if b then 2 ^ i else 0 := by
  rw [BitVec.toNat_or, bitAt_toNat b hi, Nat.or_comm, ← Nat.two_pow_add_eq_or_of_lt hx, Nat.add_comm]
  cases b <;> simp

theorem toNat_or_bitAt_lt {x : Byte} {i : Nat} (b : Bool) (hx : x.toNat < 2 ^ i) (hi : i < 8) :
    (x ||| bitAt b i).toNat < 2 ^ (i + 1) := by
  rw [toNat_or_bitAt b hx hi, Nat.pow_succ]
  split <;> omega

theorem code_toNat_lt (ph : Phase) : (Phase.code ph).toNat < 2 ^ 2 := by
  cases ph <;> decide

theorem armed_iff (s : State) : s.armed = true ↔ s.phase = .arming ∨ s.phase = .armed := by
  cases h : s.phase <;> simp [State.armed, Phase.armedBit, h]

/-- STATUS is the sum of the phase code and the weights of the bits that are set (R40). -/
theorem status_toNat (s : State) :
    s.status.toNat =
      (Phase.code s.phase).toNat + (if s.phase = .arming ∨ s.phase = .armed then 4 else 0) + (if s.relPend then 8 else 0) +
        (if s.released then 16 else 0) + (if s.xerr then 32 else 0) := by
  have hphase := code_toNat_lt s.phase
  have harmed := toNat_or_bitAt_lt s.armed hphase (by decide)
  have hrelPend := toNat_or_bitAt_lt s.relPend harmed (by decide)
  have hreleased := toNat_or_bitAt_lt s.released hrelPend (by decide)
  rw [State.status, toNat_or_bitAt _ hreleased (by decide), toNat_or_bitAt _ hrelPend (by decide),
    toNat_or_bitAt _ harmed (by decide), toNat_or_bitAt _ hphase (by decide)]
  simp only [armed_iff]
  rfl

/-! ### The register map: what an assigned register holds fits its width -/

/-- The numbers that R40 leaves unassigned: the gap before the counters, and all after them. -/
theorem registerOf_eq_none {r : Byte} (h : (0x09 ≤ r.toNat ∧ r.toNat ≤ 0x0F) ∨ 0x1B ≤ r.toNat) : registerOf r = none := by
  unfold registerOf
  split
  case h_21 => rfl -- the default case, which no number of the map reaches
  all_goals omega

/-- An incomplete candidate is shorter than the longest frame (R31). -/
theorem rxb_length_le {s : State} (h : s.RxbInv) : s.rxb.length ≤ 256 := by
  have hbyte := (byteAt s.rxb 1).isLt
  rcases h with hempty | ⟨_, hshort | hincomplete⟩
  · simp [hempty]
  · omega
  · omega

section content

variable {s : State} (hburst : s.BurstInv hw) (hrxb : s.RxbInv) (hwidth : s.CounterWidthInv hw)
include hburst hrxb hwidth

theorem registerContent_lt (reg : Register) : registerContent s reg < 2 ^ registerWidth hw reg := by
  cases reg with
  | status => exact s.status.isLt
  | burst => exact Nat.lt_trans hburst.1 (by decide)
  | counter => exact s.counter.isLt
  | txseq => exact s.txseq.isLt
  | thr0 => exact s.thr.t0.isLt
  | thr1 => exact s.thr.t1.isLt
  | thr2 => exact s.thr.t2.isLt
  | thr3 => exact s.thr.t3.isLt
  | rxbLevel => exact Nat.lt_of_le_of_lt (rxb_length_le hrxb) (by decide)
  | cnt c => exact hwidth c

/-- Within the widths READ_REG cuts nothing off. -/
theorem registerValue_eq_content (reg : Register) : registerValue hw s reg = registerContent s reg :=
  Nat.mod_eq_of_lt (registerContent_lt hburst hrxb hwidth reg)

end content

/-! ### READ_REG and ILLEGAL -/

/-- READ_REG of an assigned register emits its value and changes nothing else (R292). -/
theorem exec_readReg_of_assigned {r : Byte} {reg : Register} (h : registerOf r = some reg) (s : State) :
    exec (.readReg r) s = .next { s with out := s.out ++ [.result (.ok (.num (registerValue hw s reg)))] } := by
  have hread : s.readReg hw r = s.emit (.result (.ok (.num (registerValue hw s reg)))) := by simp only [State.readReg, h]
  rw [exec_eq_afterInstr, State.afterInstr, hread, State.emit]

/-- READ_REG of an unassigned number is ILLEGAL, reported with READ_REG's opcode (R292, R294). -/
theorem exec_readReg_of_unassigned {r : Byte} (h : registerOf r = none) (s : State) :
    exec (.readReg r) s = .next { s with
      cnt := { s.cnt with illegal := (s.cnt.illegal + 1) % 2 ^ 16 }
      out := s.out ++ [.report (.illegalOp (some 0x30#8) (some (.unassignedRegister r)))] } := by
  have hread : s.readReg hw r = s.illegalOp hw (some opReadReg) (some (.unassignedRegister r)) := by
    simp only [State.readReg, h]
  rw [exec_eq_afterInstr, State.afterInstr, hread, Encoding.illegalOp_eq]

/-- ILLEGAL of a word is reported with the first byte of the word (R294). -/
theorem exec_illegal (w : List Byte) (s : State) :
    exec (.illegal w) s = .next { s with
      cnt := { s.cnt with illegal := (s.cnt.illegal + 1) % 2 ^ 16 }
      out := s.out ++ [.report (.illegalOp w.head? (rejection w))] } := by
  rw [exec_eq_afterInstr, State.afterInstr, Encoding.illegalOp_eq]

/-- Settles O16: each entry of the map names a register with that content, which its width does not cut; STATUS alone needs an
argument for its content. -/
theorem readRegReturnsTheMappedElement : Obligations.ReadRegReturnsTheMappedElement := by
  refine ⟨fun s hburst hrxb hwidth p hp => ?_, fun r s hr => ⟨_, exec_readReg_of_unassigned (registerOf_eq_none hr) s⟩⟩
  obtain ⟨reg, hreg, hcontent⟩ : ∃ reg, registerOf p.1 = some reg ∧ registerContent s reg = p.2 := by
    simp only [List.mem_cons, List.not_mem_nil, or_false] at hp
    rcases hp with rfl | rfl | rfl | rfl | rfl | rfl | rfl | rfl | rfl | rfl | rfl | rfl | rfl | rfl | rfl | rfl | rfl | rfl |
      rfl | rfl
    case inl =>
      refine ⟨.status, rfl, (status_toNat s).trans ?_⟩
      cases s.phase <;> rfl
    all_goals exact ⟨_, rfl, rfl⟩
  rw [exec_readReg_of_assigned hreg, registerValue_eq_content hburst hrxb hwidth, hcontent]

/-- Settles O17: ILLEGAL reports a word with its rejection as the detail, READ_REG an unassigned number with the number. -/
theorem illegalOperationsAreCountedAndReported : Obligations.IllegalOperationsAreCountedAndReported :=
  ⟨fun w s _ => ⟨rejection w, exec_illegal w s⟩,
    fun r s hr => ⟨some (.unassignedRegister r), exec_readReg_of_unassigned (registerOf_eq_none hr) s⟩⟩

end Sys2Proof.HostControl
end

section
/-! PROOFS. The round trips (30_encoding.md sections 1 and 6, 40_codec.md section 3): host words and their operations (R100,
R102), wire frames and their FRAME rows (R80, R91), `encode` and `decode` of the codec (R136). -/

namespace Sys2Proof.RoundTrip

open Sys2Proof.Machine Sys2Proof.Encoding

/-! ### Legal words -/

theorem legalWord_iff_listedShape (w : List Byte) : legalWord w = true ↔ ListedShape w := by
  rw [← totalBytes_eq_length_iff]
  cases w with
  | nil => decide
  | cons op ds => simp [legalWord]

theorem decode_of_not_legal {w : List Byte} (h : legalWord w = false) : decode w = .illegal w := by
  rw [decode_eq_illegal_iff, ← legalWord_iff_listedShape, h]
  decide

/-- A word decodes to `i` where its opcode gives it its own length and its operands are read into `i`. -/
theorem decode_eq {w : List Byte} {i : Instr} (hlen : totalBytes (byteAt w 0) w = some w.length)
    (hops : decodeLegal w = i) : decode w = i := by
  rw [decode, (rejection_eq_none_iff w).mpr hlen, hops]

/-! ### From an operation to its word and back -/

/-- The slice behind the bytes `p`, up to the end of the bytes `d` that follow them. -/
theorem slice_append (p d : List Byte) : slice (p ++ d) p.length (p.length + d.length) = d := by
  rw [slice, List.take_of_length_le (by simp), List.drop_left]

theorem decode_encode_of_setThrottle (t0 t1 t2 t3 : Half) :
    decode (encode (.setThrottle t0 t1 t2 t3)) = .setThrottle t0 t1 t2 t3 := by
  apply decode_eq
  · rfl
  · calc decodeLegal (encode (.setThrottle t0 t1 t2 t3))
        = .setThrottle (ofLoHi (loByte t0) (hiByte t0)) (ofLoHi (loByte t1) (hiByte t1)) (ofLoHi (loByte t2) (hiByte t2))
            (ofLoHi (loByte t3) (hiByte t3)) := rfl
      _ = .setThrottle t0 t1 t2 t3 := by simp only [ofLoHi_loByte_hiByte]

/-- ENCODE's 8-bit count is the length of the payload after it (R100). -/
theorem decode_encode_of_encode {payload : List Byte} (cmdId reserved : Half) (sequence : Byte) (h : payload.length < 256) :
    decode (encode (.encode cmdId reserved sequence payload)) = .encode cmdId reserved sequence payload := by
  set w := encode (.encode cmdId reserved sequence payload)
  have hlen : w.length = 7 + payload.length := Laws.EncodedLength.encode cmdId reserved sequence payload
  have hcount : (byteAt w 6).toNat = payload.length := Nat.mod_eq_of_lt h
  have hpayload : slice w 7 (7 + payload.length) = payload :=
    slice_append ([opEncode] ++ le16bytes cmdId ++ le16bytes reserved ++ [sequence, BitVec.ofNat 8 payload.length]) payload
  apply decode_eq
  · calc totalBytes (byteAt w 0) w
        = some (if w.length < 7 then 7 else 7 + (byteAt w 6).toNat) := rfl
      _ = some w.length := by rw [if_neg (by omega), hcount, hlen]
  · calc decodeLegal w
        = .encode (ofLoHi (loByte cmdId) (hiByte cmdId)) (ofLoHi (loByte reserved) (hiByte reserved)) sequence
            (slice w 7 (7 + (byteAt w 6).toNat)) := rfl
      _ = .encode cmdId reserved sequence payload := by
        rw [ofLoHi_loByte_hiByte, ofLoHi_loByte_hiByte, hcount, hpayload]

/-- The word of DECODE and of CHECKSUM: an opcode, a 16-bit count and the data (R100). -/
def dataWord (op : Byte) (data : List Byte) : List Byte :=
  [op] ++ le16bytes (BitVec.ofNat 16 data.length) ++ data

section data

variable (op : Byte) {data : List Byte}

theorem dataWord_length : (dataWord op data).length = 3 + data.length := by
  simp [dataWord]; omega

/-- The count of a data word is the number of the bytes after it. -/
theorem le16_dataWord (h : data.length < 65536) : (le16 (dataWord op data) 1).toNat = data.length := by
  have hread : le16 (dataWord op data) 1 = BitVec.ofNat 16 data.length := by
    rw [dataWord, List.append_assoc]
    exact le16_append [op] data _
  rw [hread]
  exact Nat.mod_eq_of_lt h

theorem slice_dataWord : slice (dataWord op data) 3 (3 + data.length) = data :=
  slice_append ([op] ++ le16bytes (BitVec.ofNat 16 data.length)) data

theorem totalBytes_dataWord (hop : op = opDecode ∨ op = opChecksum) (h : data.length < 65536) :
    totalBytes op (dataWord op data) = some (dataWord op data).length := by
  calc totalBytes op (dataWord op data)
      = some (if (dataWord op data).length < 3 then 3 else 3 + (le16 (dataWord op data) 1).toNat) := by
        rcases hop with rfl | rfl <;> rfl
    _ = some (dataWord op data).length := by
        rw [dataWord_length, if_neg (by omega), le16_dataWord op h]

end data

theorem decode_encode_of_decode {data : List Byte} (h : data.length < 65536) : decode (encode (.decode data)) = .decode data := by
  refine decode_eq (totalBytes_dataWord opDecode (.inl rfl) h) ?_
  calc decodeLegal (dataWord opDecode data)
      = .decode (slice (dataWord opDecode data) 3 (3 + (le16 (dataWord opDecode data) 1).toNat)) := rfl
    _ = .decode data := by rw [le16_dataWord opDecode h, slice_dataWord]

theorem decode_encode_of_checksum {data : List Byte} (h : data.length < 65536) :
    decode (encode (.checksum data)) = .checksum data := by
  refine decode_eq (totalBytes_dataWord opChecksum (.inr rfl) h) ?_
  calc decodeLegal (dataWord opChecksum data)
      = .checksum (slice (dataWord opChecksum data) 3 (3 + (le16 (dataWord opChecksum data) 1).toNat)) := rfl
    _ = .checksum data := by rw [le16_dataWord opChecksum h, slice_dataWord]

/-- Settles O25: row by row; a count read back is the length it was written from, since a well-formed list fits its count. -/
theorem decodeUndoesEncodeOfHostWords : Obligations.DecodeUndoesEncodeOfHostWords := by
  intro i hhost hwf
  cases i with
  | setThrottle t0 t1 t2 t3 => exact decode_encode_of_setThrottle t0 t1 t2 t3
  | encode cmdId reserved sequence payload => exact decode_encode_of_encode cmdId reserved sequence (of_decide_eq_true hwf)
  | decode data => exact decode_encode_of_decode (of_decide_eq_true hwf)
  | checksum data => exact decode_encode_of_checksum (of_decide_eq_true hwf)
  | illegal w => exact decode_of_not_legal (Bool.not_eq_true' _ ▸ hwf)
  | reset | arm | disarm | abort | transportError | tick | rxByte _ | rxFlush | readReg _ => exact decode_eq rfl rfl
  | frameA0d0 | frameA021 | frameOther => cases hhost

/-! ### From a word to its operation and back -/

theorem le16bytes_ofLoHi (lo hi : Byte) : le16bytes (ofLoHi lo hi) = [lo, hi] := by
  simp [le16bytes]

/-- A count that agrees with a length is the count written from it. -/
theorem ofNat_length_eq {n : Nat} {c : BitVec n} {d : List Byte} (h : d.length = c.toNat) :
    BitVec.ofNat n d.length = c := by
  rw [h, BitVec.ofNat_toNat, BitVec.setWidth_eq]

/-- Every legal word is the word of a well-formed operation of R100's table. -/
theorem exists_encode_eq_of_listedShape {w : List Byte} (h : ListedShape w) :
    ∃ i : Instr, i.frame? = none ∧ i.wellFormed = true ∧ encode i = w := by
  rcases h with ⟨hlen, hop⟩ | ⟨hlen, hop⟩ | ⟨hlen, hop⟩ | ⟨hmin, hlen, hop⟩ | ⟨hmin, hlen, hop⟩
  · obtain ⟨op, rfl⟩ := List.length_eq_one_iff.mp hlen
    simp only [byteAt_cons_zero, List.mem_cons, List.not_mem_nil, or_false] at hop
    rcases hop with rfl | rfl | rfl | rfl | rfl | rfl | rfl
    · exact ⟨.reset, rfl, rfl, rfl⟩
    · exact ⟨.arm, rfl, rfl, rfl⟩
    · exact ⟨.disarm, rfl, rfl, rfl⟩
    · exact ⟨.abort, rfl, rfl, rfl⟩
    · exact ⟨.transportError, rfl, rfl, rfl⟩
    · exact ⟨.tick, rfl, rfl, rfl⟩
    · exact ⟨.rxFlush, rfl, rfl, rfl⟩
  · match w, hlen with
    | [op, a, b, c, d, e, f, g, h], _ =>
      rw [byteAt_cons_zero] at hop
      subst hop
      refine ⟨.setThrottle (ofLoHi a b) (ofLoHi c d) (ofLoHi e f) (ofLoHi g h), rfl, rfl, ?_⟩
      simp only [encode, le16bytes_ofLoHi]
      rfl
  · obtain ⟨op, a, rfl⟩ := List.length_eq_two.mp hlen
    simp only [byteAt_cons_zero, List.mem_cons, List.not_mem_nil, or_false] at hop
    rcases hop with rfl | rfl
    · exact ⟨.rxByte a, rfl, rfl, rfl⟩
    · exact ⟨.readReg a, rfl, rfl, rfl⟩
  · match w, hmin with
    | op :: a :: b :: c :: d :: e :: n :: payload, _ =>
      rw [byteAt_cons_zero] at hop
      subst hop
      have hcount : payload.length = n.toNat := by
        have : payload.length + 7 = 7 + n.toNat := hlen
        omega
      refine ⟨.encode (ofLoHi a b) (ofLoHi c d) e payload, rfl, decide_eq_true (hcount ▸ n.isLt), ?_⟩
      simp only [encode, le16bytes_ofLoHi, ofNat_length_eq hcount]
      rfl
  · match w, hmin with
    | op :: lo :: hi :: data, _ =>
      have hcount : data.length = (ofLoHi lo hi).toNat := by
        have : data.length + 3 = 3 + (ofLoHi lo hi).toNat := hlen
        omega
      have hwf : data.length < 65536 := hcount ▸ (ofLoHi lo hi).isLt
      have hword : dataWord op data = op :: lo :: hi :: data := by
        rw [dataWord, ofNat_length_eq hcount, le16bytes_ofLoHi]
        rfl
      simp only [byteAt_cons_zero, List.mem_cons, List.not_mem_nil, or_false] at hop
      rcases hop with rfl | rfl
      · exact ⟨.decode data, rfl, decide_eq_true hwf, hword⟩
      · exact ⟨.checksum data, rfl, decide_eq_true hwf, hword⟩

/-- Settles O26: a legal word is the word of some operation, which O25 gives back; an illegal one is kept whole. -/
theorem encodeUndoesDecodeOfHostWords : Obligations.EncodeUndoesDecodeOfHostWords := by
  intro w
  cases hlegal : legalWord w with
  | true =>
    obtain ⟨i, hhost, hwf, rfl⟩ := exists_encode_eq_of_listedShape ((legalWord_iff_listedShape w).mp hlegal)
    rw [decodeUndoesEncodeOfHostWords i hhost hwf]
    exact ⟨hhost, hwf, rfl⟩
  | false =>
    rw [decode_of_not_legal hlegal]
    exact ⟨rfl, by rw [Instr.wellFormed, hlegal]; rfl, rfl⟩

/-- Settles O22: a step decodes the next word presented and performs it; with none presented it is idle. -/
theorem stepPerformsTheDecodedWord : Obligations.StepPerformsTheDecodedWord := by
  refine ⟨fun i w ws s hpending hdecode _ => ?_, fun s hidle => step_idle hidle⟩
  rw [step_word hpending, hdecode, exec_eq_afterInstr]

/-- Settles O23: each word, byte by byte, through the length and operand columns of R100. -/
theorem wordsWrittenOutDecodeRight : Obligations.WordsWrittenOutDecodeRight := by
  refine ⟨decode_eq rfl rfl, decode_eq rfl rfl, decode_eq rfl rfl, decode_eq rfl rfl, decode_eq rfl rfl, decode_eq rfl rfl,
    decode_eq rfl rfl, decode_eq rfl rfl, decode_eq rfl rfl, ?_, ?_, ?_⟩
  all_goals exact decode_of_not_legal rfl

/-! ### Wire frames -/

section frame

variable (fr : Frame) (tail : List Byte)

theorem wire_append : fr.wire ++ tail =
    frameBody fr.flags fr.cmdId fr.reserved fr.sequence fr.payload ++ (le16bytes fr.checksum ++ tail) :=
  List.append_assoc ..

theorem byteAt_wire_sync : byteAt (fr.wire ++ tail) 0 = sync := rfl

/-- The length byte of a frame whose payload fits counts the header and the payload (R81). -/
theorem byteAt_wire_length {fr : Frame} (h : fr.payload.length ≤ maxPayload) :
    (byteAt (fr.wire ++ tail) 1).toNat = 8 + fr.payload.length := lengthByte_toNat h

theorem take_wire : (fr.wire ++ tail).take (8 + fr.payload.length) =
    frameBody fr.flags fr.cmdId fr.reserved fr.sequence fr.payload := by
  rw [wire_append, List.take_left' (frameBody_length ..)]

theorem slice_wire : slice (fr.wire ++ tail) 8 (8 + fr.payload.length) = fr.payload := by
  rw [slice, take_wire]
  rfl

theorem le16_wire_checksum : le16 (fr.wire ++ tail) (8 + fr.payload.length) = fr.checksum := by
  rw [wire_append, ← frameBody_length fr.flags fr.cmdId fr.reserved fr.sequence fr.payload]
  exact le16_append ..

/-- `decode` gives the fields of a well-formed wire frame back, whatever bytes follow it (R134, R136). -/
theorem decodeFrame_wire {alg : ChecksumAlg} {fr : Frame} (h : fr.wf alg) (tail : List Byte) :
    decodeFrame alg (fr.wire ++ tail) = .ok fr := by
  obtain ⟨hfits, hchecksum⟩ := h
  have hlen := byteAt_wire_length tail hfits
  have hsize : (fr.wire ++ tail).length = 10 + fr.payload.length + tail.length := by
    rw [List.length_append, Frame.wire_length]
  rcases decodeFrame_cases alg (fr.wire ++ tail) with
    ⟨hshort, _⟩ | ⟨_, hbad, _⟩ | ⟨_, _, hmismatch, _⟩ | ⟨_, _, _, _, hne, _⟩ | ⟨_, _, _, _, _, hok⟩
  · omega
  · exact absurd (byteAt_wire_sync fr tail) hbad
  · omega
  · rw [hlen, take_wire, le16_wire_checksum] at hne
    exact absurd hchecksum.symm hne
  · have hcmdId : le16 (fr.wire ++ tail) 3 = fr.cmdId := ofLoHi_loByte_hiByte _
    have hreserved : le16 (fr.wire ++ tail) 5 = fr.reserved := ofLoHi_loByte_hiByte _
    rw [hok, hlen, hcmdId, hreserved, slice_wire, le16_wire_checksum]
    rfl

end frame

theorem decodeWire_wire {fr : Frame} (h : fr.wf hw.checksumAlg) (tail : List Byte) :
    decodeWire (fr.wire ++ tail) = .ok (.ofFrame fr) := by
  rw [decodeWire, decodeFrame_wire h]

/-- Settles O27: the bytes of a FRAME row are those of its frame record, whose row its `cmd_id` names. -/
theorem wireDecodeUndoesFrameEncode : Obligations.WireDecodeUndoesFrameEncode := by
  intro i fr tail hframe hwf
  cases i with
  | frameA0d0 flags reserved sequence payload cs => exact decodeWire_wire (of_decide_eq_true hwf) tail
  | frameA021 flags reserved sequence payload cs => exact decodeWire_wire (of_decide_eq_true hwf) tail
  | frameOther fr =>
    obtain ⟨hfr, htelemetry, hcommand⟩ := of_decide_eq_true hwf
    have hrow : Instr.ofFrame fr = .frameOther fr := by
      rw [Instr.ofFrame, if_neg htelemetry, if_neg hcommand]
    calc decodeWire (fr.wire ++ tail)
        = .ok (.ofFrame fr) := decodeWire_wire hfr tail
      _ = .ok (.frameOther fr) := by rw [hrow]
  | reset | arm | disarm | setThrottle | abort | transportError | tick | rxByte | rxFlush | encode | decode | checksum
  | readReg | illegal => cases hframe

/-- Settles O28: an encoded frame is the wire frame of the record with zero flags and the checksum of its body. -/
theorem frameDecodeUndoesFrameEncodeUnderEveryChecksum : Obligations.FrameDecodeUndoesFrameEncodeUnderEveryChecksum := by
  intro alg cmdId reserved sequence payload hfits
  let fr : Frame :=
    { flags := txFlags, cmdId, reserved, sequence, payload
      checksum := checksum alg (frameBody txFlags cmdId reserved sequence payload) }
  have hwf : fr.wf alg := ⟨hfits, rfl⟩
  refine ⟨fr.wire, fr.checksum, ?_, ?_, ?_⟩
  · rw [encodeFrame, if_neg (Nat.not_lt.mpr hfits), frameBytes_eq_wire]
  · rw [Frame.wire_length, Nat.add_comm]
  · simpa using decodeFrame_wire hwf []

end Sys2Proof.RoundTrip
end

section
/-! PROOFS. The checksum unit (40_codec.md sections 1 and 4): the loop of R120 round by round, its check values (R122), and what a
flipped bit of an encoded frame does to DECODE (R138). -/

namespace Sys2Proof.Checksum

open Sys2Proof.Machine

/-! ### CHECKSUM -/

/-- CHECKSUM emits its RESULT and changes nothing else (R144). -/
theorem exec_checksum (d : List Byte) (s : State) :
    exec (.checksum d) s = .next { s with out := s.out ++ [.result (.ok (.num (crc crcPolyReflected d).toNat))] } :=
  exec_eq_afterInstr _ s

/-- Settles O14: the eight rounds of the last byte are the iterates of `crcRound`. -/
theorem checksumReturnsTheCrcLoop : Obligations.ChecksumReturnsTheCrcLoop := by
  refine ⟨exec_checksum, rfl, fun d b => ?_⟩
  exact ⟨fun k => Nat.repeat (crcRound crcPolyReflected) k (crc crcPolyReflected d ^^^ b.setWidth 16), rfl, fun k _ => rfl,
    crc_append_singleton crcPolyReflected d b⟩

/-- Settles O15: the values of R122's table, each computed by the loop. -/
theorem checksumGivesTheCheckValues : Obligations.ChecksumGivesTheCheckValues := by
  refine ⟨fun p hp s => ?_, by decide +kernel⟩
  have hvalue : (crc crcPolyReflected p.1).toNat = p.2 := by
    revert p
    decide +kernel
  rw [exec_checksum, hvalue]

/-! ### The loop loses nothing of a byte or of the checksum so far -/

section injective

variable {poly : Half} (hpoly : poly.getLsbD 15 = true)
include hpoly

/-- The bit that a round shifts out stands, through the constant's top bit, at the top of the result. -/
theorem getLsbD_crcRound_top (c : Half) : (crcRound poly c).getLsbD 15 = c.getLsbD 0 := by
  unfold crcRound
  split
  · next h => rw [BitVec.getLsbD_xor, hpoly, h, BitVec.getLsbD_ushiftRight, BitVec.getLsbD_of_ge _ _ (by decide)]; rfl
  · next h => rw [BitVec.getLsbD_ushiftRight, BitVec.getLsbD_of_ge _ _ (by decide), Bool.eq_false_iff.mpr h]

theorem crcRound_injective : Function.Injective (crcRound poly) := by
  intro c c' h
  have hlow : c.getLsbD 0 = c'.getLsbD 0 := by
    rw [← getLsbD_crcRound_top hpoly c, ← getLsbD_crcRound_top hpoly c', h]
  have hshift : c >>> 1 = c' >>> 1 := by
    unfold crcRound at h
    rw [hlow] at h
    split at h
    · exact (BitVec.xor_left_inj _).mp h
    · exact h
  apply BitVec.eq_of_getLsbD_eq
  intro i hi
  cases i with
  | zero => exact hlow
  | succ i => simpa [Nat.add_comm] using congrArg (·.getLsbD i) hshift

theorem repeat_crcRound_injective (k : Nat) : Function.Injective (Nat.repeat (crcRound poly) k) := by
  induction k with
  | zero => exact Function.injective_id
  | succ k ih => exact (crcRound_injective hpoly).comp ih

theorem crcByte_injective_left (b : Byte) : Function.Injective (crcByte poly · b) := fun _ _ h =>
  (BitVec.xor_left_inj _).mp (repeat_crcRound_injective hpoly 8 h)

theorem crcByte_injective_right (c : Half) : Function.Injective (crcByte poly c) := fun b b' h => by
  have hwide : b.setWidth 16 = b'.setWidth 16 := (BitVec.xor_right_inj _).mp (repeat_crcRound_injective hpoly 8 h)
  simpa using congrArg (BitVec.setWidth 8) hwide

theorem foldl_crcByte_injective (d : List Byte) : Function.Injective (List.foldl (crcByte poly) · d) := by
  induction d with
  | nil => exact Function.injective_id
  | cons b d ih => exact ih.comp (crcByte_injective_left hpoly b)

/-- Two byte lists that differ in one byte have different checksums. -/
theorem crc_set_ne {d : List Byte} {i : Nat} {x : Byte} (hi : i < d.length) (hx : x ≠ byteAt d i) :
    crc poly (d.set i x) ≠ crc poly d := by
  have hbyte : byteAt d i = d[i] := by simp [byteAt, hi]
  have hsplit : d = d.take i ++ d[i] :: d.drop (i + 1) := by
    rw [List.getElem_cons_drop, List.take_append_drop]
  have hset : d.set i x = d.take i ++ x :: d.drop (i + 1) := List.set_eq_take_append_cons_drop.trans (if_pos hi)
  intro h
  rw [hset, congrArg (crc poly) hsplit, crc, crc, List.foldl_append, List.foldl_append] at h
  exact hx (hbyte ▸ crcByte_injective_right hpoly _ (foldl_crcByte_injective hpoly _ h))

end injective

/-! ### One byte of a list replaced -/

section set

variable {d : List Byte} {i j : Nat} {x : Byte}

theorem byteAt_set_self (h : i < d.length) : byteAt (d.set i x) i = x := by
  simp [byteAt, h]

theorem byteAt_set_of_ne (h : i ≠ j) : byteAt (d.set i x) j = byteAt d j := by
  simp [byteAt, h]

theorem le16_set_of_ne (h : i ≠ j) (h' : i ≠ j + 1) : le16 (d.set i x) j = le16 d j := by
  rw [le16, byteAt_set_of_ne h, byteAt_set_of_ne h', ← le16]

/-- A u16 tells its two bytes apart (R10). -/
theorem byteAt_eq_of_le16_eq {e : List Byte} (h : le16 d i = le16 e i) :
    byteAt d i = byteAt e i ∧ byteAt d (i + 1) = byteAt e (i + 1) := by
  constructor
  · simpa [le16] using congrArg loByte h
  · simpa [le16] using congrArg hiByte h

end set

/-- A flipped bit changes its byte. -/
theorem xor_bit_ne (x : Byte) {b : Nat} (hb : b < 8) : x ^^^ (1#8 <<< b) ≠ x := by
  have hbit : ∀ b < 8, 1#8 <<< b ≠ 0#8 := by decide
  intro h
  exact hbit b hb (by simpa using congrArg (x ^^^ ·) h)

/-! ### An encoded frame with one byte changed -/

section frame

variable (cmdId reserved : Half) (sequence : Byte) (payload : List Byte)

/-- Behind the length byte a changed byte leaves no frame whose stored checksum is the one computed: either the bytes under the
checksum differ from the encoded ones in one byte and what is stored is as before, or the other way round (R138). -/
theorem checksum_ne_stored_of_set {i : Nat} {x : Byte} (hi : i < 10 + payload.length)
    (hx : x ≠ byteAt (frameBytes .crc16R cmdId reserved sequence payload) i) :
    checksum .crc16R (((frameBytes .crc16R cmdId reserved sequence payload).set i x).take (8 + payload.length)) ≠
      le16 ((frameBytes .crc16R cmdId reserved sequence payload).set i x) (8 + payload.length) := by
  set f := frameBytes .crc16R cmdId reserved sequence payload
  have hlen : f.length = 10 + payload.length := frameBytes_length ..
  have hstored : le16 f (8 + payload.length) = checksum .crc16R (f.take (8 + payload.length)) :=
    Encoding.le16_frameBytes_checksum ..
  rw [List.take_set]
  by_cases hbody : i < 8 + payload.length
  · rw [le16_set_of_ne (by omega) (by omega), hstored]
    apply crc_set_ne (by decide)
    · rw [List.length_take]
      omega
    · rwa [byteAt_take hbody]
  · rw [List.set_eq_of_length_le (by rw [List.length_take]; omega), ← hstored]
    intro h
    obtain ⟨hlo, hhi⟩ := byteAt_eq_of_le16_eq h
    have hset : byteAt (f.set i x) i = x := byteAt_set_self (by omega)
    obtain rfl | rfl : i = 8 + payload.length ∨ i = 8 + payload.length + 1 := by omega
    · exact hx (hset.symm.trans hlo.symm)
    · exact hx (hset.symm.trans hhi.symm)

end frame

/-- Settles O29: the check that the changed byte fails is the first of R132 that does; behind the length byte that is the checksum,
by `checksum_ne_stored_of_set`. -/
theorem singleBitFlipsAreDetected : Obligations.SingleBitFlipsAreDetected := by
  intro cmdId reserved sequence payload i b s hfits hi hb f f' answers len'
  have hlen : f'.length = 10 + payload.length := by
    rw [List.length_set, frameBytes_length]
  have hchanged : byteAt f' i ≠ byteAt f i := by
    rw [byteAt_set_self (by rw [frameBytes_length]; omega)]
    exact xor_bit_ne _ hb
  have hsync : 1 ≤ i → byteAt f' 0 = sync := fun h => byteAt_set_of_ne (by omega)
  have hlength : 2 ≤ i → (byteAt f' 1).toNat = 8 + payload.length := fun h =>
    (congrArg BitVec.toNat (byteAt_set_of_ne (by omega))).trans (lengthByte_toNat hfits)
  obtain ⟨_, hbadSync, hmismatch, hchecksum, _⟩ := CodecOps.decodeReturnsTheFirstErrorOrTheFrame f' s
  refine ⟨?sync, ?length, ?shorter, ?later⟩
  case sync =>
    rintro rfl
    exact hbadSync (by omega) hchanged
  case length =>
    rintro rfl h
    exact hmismatch (by omega) (hsync le_rfl) (by omega)
  case shorter =>
    rintro rfl hmin hmax hne
    exact hchecksum (hsync le_rfl) hmin (by omega) hne
  case later =>
    intro h
    have hne : checksum .crc16R (f'.take (byteAt f' 1).toNat) ≠ le16 f' (byteAt f' 1).toNat := by
      rw [hlength h]
      exact checksum_ne_stored_of_set cmdId reserved sequence payload (by omega) (xor_bit_ne _ hb)
    exact ⟨_, _, hchecksum (hsync (by omega)) (by rw [hlength h]; omega) (by rw [hlength h]; omega) hne⟩

end Sys2Proof.Checksum
end

section
/-! PROOFS. What each operation may change, said once: the receiver, the codec and the host port write the receive buffer, the
counters and OUT; the scheduler's six operations write the command state, CNT_IGNORED and OUT (60_exceptions.md R311,
44_scheduler.md). The noninterference statements follow. -/

namespace Sys2Proof.Effects

open Sys2Proof.Machine

/-! ### Records that are not on the transport -/

/-- None of the records is a TX or a RELEASED. -/
def Quiet (rs : List Record) : Prop := ∀ r ∈ rs, r.onTransport = false

theorem quiet_nil : Quiet [] := by simp [Quiet]

theorem quiet_singleton {r : Record} (h : r.onTransport = false) : Quiet [r] := List.forall_mem_singleton.mpr h

theorem Quiet.append {rs rs' : List Record} (h : Quiet rs) (h' : Quiet rs') : Quiet (rs ++ rs') :=
  List.forall_mem_append.mpr ⟨h, h'⟩

theorem Quiet.filter_eq_nil {rs : List Record} (h : Quiet rs) : rs.filter Record.onTransport = [] :=
  List.filter_eq_nil_iff.mpr fun r hr => Bool.eq_false_iff.mp (h r hr)

theorem Quiet.txFrames_eq_nil {rs : List Record} (h : Quiet rs) : txFrames rs = [] := by
  rw [txFrames, List.filterMap_eq_nil_iff]
  intro r hr
  have hquiet := h r hr
  cases r with
  | tx f => cases hquiet
  | rx | report | result | released => rfl

/-! ### The receiver's side -/

/-- `s` with another receive buffer, other counters and the records `rs` appended to OUT: what an operation of the receiver, the
codec or the host port leaves. -/
def received (s : State) (rx : List Byte) (k : Counters) (rs : List Record) : State :=
  { s with rxb := rx, cnt := k, out := s.out ++ rs }

section received

variable (s : State) (rx : List Byte) (k : Counters) (rs : List Record)

@[simp] theorem received_cnt : (received s rx k rs).cnt = k := rfl

theorem received_received (rx' : List Byte) (k' : Counters) (rs' : List Record) :
    received (received s rx k rs) rx' k' rs' = received s rx' k' (rs ++ rs') := by
  simp only [received, List.append_assoc]

theorem received_sameCommand : s.sameCommand (received s rx k rs) := ⟨rfl, rfl, rfl, rfl, rfl, rfl, rfl, rfl⟩

end received

/-- What ROUTE appends to OUT and counts depends on the frame alone (R210, R211): its one RX record, and where the payload is too
short a count and a report (R216). -/
theorem route_eq_received (P : Params) (fr : Frame) :
    ∃ (g : Counters → Counters) (rs : List Record), (g = id ∨ g = (·.bump P .shortPayload)) ∧ Quiet rs ∧
      rxFrames rs = [fr] ∧ ∀ s : State, s.route P fr = received s s.rxb (g s.cnt) rs := by
  have hcases : (∃ r, ∀ s : State, s.route P fr = s.emit (.rx fr r)) ∨
      (∃ need, ∀ s : State, s.route P fr = s.shortPayload P fr need) := by
    unfold State.route State.routeTelem State.routeFeedback
    by_cases htelemetry : fr.cmdId = cmdA0d0
    · simp only [if_pos htelemetry]
      by_cases hshort : fr.payload.length < telemMin
      · exact .inr ⟨telemMin, fun s => if_pos hshort⟩
      · exact .inl ⟨telemRoute fr, fun s => if_neg hshort⟩
    · simp only [if_neg htelemetry]
      by_cases hcommand : fr.cmdId = cmdA021
      · simp only [if_pos hcommand]
        by_cases hshort : fr.payload.length < a021Len
        · exact .inr ⟨a021Len, fun s => if_pos hshort⟩
        · exact .inl ⟨feedbackRoute fr, fun s => if_neg hshort⟩
      · exact .inl ⟨.other, fun s => if_neg hcommand⟩
  obtain ⟨r, h⟩ | ⟨need, h⟩ := hcases
  · exact ⟨id, [.rx fr r], .inl rfl, quiet_singleton rfl, rfl, h⟩
  · refine ⟨(·.bump P .shortPayload), [.rx fr .shortPayload] ++ [.report (.shortPayload fr.cmdId fr.payload.length need)],
      .inr rfl, (quiet_singleton rfl).append (quiet_singleton rfl), rfl, fun s => ?_⟩
    rw [h, received, ← List.append_assoc]
    rfl

/-- The loop of R160 reads the buffer and the counters alone: from any other state with the same ones it runs through the same
rounds, appends the same records and leaves the rest of that state as it was. -/
theorem scanLoop_transfer {P : Params} {final : Bool} {s t : State} (h : ScanLoop P final s t) :
    ∃ rs, Quiet rs ∧ ∀ s' : State, s'.rxb = s.rxb → s'.cnt = s.cnt →
      ScanLoop P final s' (received s' t.rxb t.cnt rs) := by
  induction h with
  | @empty s drained =>
    refine ⟨[], quiet_nil, fun s' hrxb hcnt => ?_⟩
    have hsame : received s' s.rxb s.cnt [] = s' := by rw [received, ← hrxb, ← hcnt, List.append_nil]
    rw [hsame]
    exact .empty (hrxb.trans drained)
  | @wait s rx stream head short =>
    refine ⟨[], quiet_nil, fun s' hrxb hcnt => ?_⟩
    have hsame : received s' s.rxb s.cnt [] = s' := by rw [received, ← hrxb, ← hcnt, List.append_nil]
    rw [hsame]
    exact .wait stream (hrxb.trans head) (hrxb ▸ short)
  | discard head noSync _ ih =>
    obtain ⟨rs, hquiet, hrun⟩ := ih
    refine ⟨rs, hquiet, fun s' hrxb hcnt => .discard (hrxb.trans head) noSync ?_⟩
    rw [hcnt]
    exact hrun { s' with rxb := _, cnt := _ } rfl rfl
  | @cut s t rx flush head short _ ih =>
    obtain ⟨rs, hquiet, hrun⟩ := ih
    refine ⟨[.report (.truncated s.rxb.length rx.head?)] ++ rs, (quiet_singleton rfl).append hquiet, fun s' hrxb hcnt =>
      .cut flush (hrxb.trans head) (hrxb ▸ short) ?_⟩
    have hnext := hrun (received s' rx _ [.report (.truncated s.rxb.length rx.head?)]) rfl rfl
    rw [received_received] at hnext
    rw [hcnt, hrxb]
    exact hnext
  | @reject s t rx e head more whole bad _ ih =>
    obtain ⟨rs, hquiet, hrun⟩ := ih
    refine ⟨[.report (.decoding e)] ++ rs, (quiet_singleton rfl).append hquiet, fun s' hrxb hcnt =>
      .reject (hrxb.trans head) more (hrxb ▸ whole) (hrxb ▸ bad) ?_⟩
    have hnext := hrun (received s' rx _ [.report (.decoding e)]) rfl rfl
    rw [received_received] at hnext
    rw [hcnt]
    exact hnext
  | @accept s t rx fr head more whole good _ ih =>
    obtain ⟨rs, hquiet, hrun⟩ := ih
    obtain ⟨g, routed, _, hrouted, _, hroute⟩ := route_eq_received P fr
    refine ⟨routed ++ rs, hrouted.append hquiet, fun s' hrxb hcnt =>
      .accept (hrxb.trans head) more (hrxb ▸ whole) (hrxb ▸ good) ?_⟩
    rw [hroute] at hrun ⊢
    have hnext := hrun (received s' _ _ routed) rfl rfl
    rw [received_received] at hnext
    rw [hcnt, hrxb]
    exact hnext

/-- SCAN's effect is determined by the buffer and the counters it starts from. -/
theorem scan_eq_received (P : Params) (final : Bool) (s : State) :
    ∃ (rx : List Byte) (k : Counters) (rs : List Record), Quiet rs ∧
      ∀ s' : State, s'.rxb = s.rxb → s'.cnt = s.cnt → s'.scan P final = received s' rx k rs := by
  obtain ⟨rs, hquiet, hrun⟩ := scanLoop_transfer (Framer.scanLoop_scan P final s)
  exact ⟨_, _, rs, hquiet, fun s' hrxb hcnt => (Framer.eq_scan_of_scanLoop (hrun s' hrxb hcnt)).symm⟩

/-- What the operations of the codec, the host port and the FRAME rows leave: the buffer as it was, the counters as they were or
CNT_SHORT_PAYLOAD or CNT_ILLEGAL up by one, and records appended (R33, R216, R294). -/
def PortEffect (s t : State) : Prop :=
  ∃ (k : Counters) (rs : List Record),
    (k = s.cnt ∨ k = s.cnt.bump hw .shortPayload ∨ k = s.cnt.bump hw .illegal) ∧ Quiet rs ∧ t = received s s.rxb k rs

theorem portEffect_emit (s : State) {r : Record} (h : r.onTransport = false) : PortEffect s (s.emit r) :=
  ⟨s.cnt, [r], .inl rfl, quiet_singleton h, rfl⟩

theorem portEffect_illegalOp (s : State) (opcode : Option Byte) (detail : Option IllegalDetail) :
    PortEffect s (s.illegalOp hw opcode detail) :=
  ⟨_, [.report (.illegalOp opcode detail)], .inr (.inr rfl), quiet_singleton rfl, rfl⟩

theorem portEffect_readReg (s : State) (r : Byte) : PortEffect s (s.readReg hw r) := by
  unfold State.readReg
  split
  · exact portEffect_emit s rfl
  · exact portEffect_illegalOp s _ _

theorem portEffect_route (s : State) (fr : Frame) : PortEffect s (s.route hw fr) := by
  obtain ⟨g, rs, hg, hquiet, _, hroute⟩ := route_eq_received hw fr
  refine ⟨g s.cnt, rs, ?_, hquiet, hroute s⟩
  rcases hg with rfl | rfl
  · exact .inl rfl
  · exact .inr (.inl rfl)

/-! ### The scheduler's side -/

/-- ABORT, and TRANSPORT_ERROR with XERR set, tear down alike (R252, R254): `TearsDown s i x` says that `i` does, `x` being XERR from
then on. -/
def TearsDown (s : State) (i : Instr) (x : Bool) : Prop :=
  (i = .abort ∧ x = s.xerr) ∨ (i = .transportError ∧ x = true)

/-- When IGNORE answers an operation, and with which opcode (R244, R248, R250, R252, R254). -/
inductive Refuses (s : State) : Instr → Byte → Prop where
  | arm (h : s.released = true ∨ s.phase ≠ .disarmed) : Refuses s .arm opArm
  | disarm (h : s.released = true ∨ s.phase = .disarmed ∨ s.phase = .disarming) : Refuses s .disarm opDisarm
  | setThrottle {t0 t1 t2 t3 : Half} (h : s.released = true ∨ s.phase ≠ .armed) :
    Refuses s (.setThrottle t0 t1 t2 t3) opSetThrottle
  | abort (h : s.released = true) : Refuses s .abort opAbort
  | transportError (h : s.released = true) : Refuses s .transportError opTransportError

/-- What one of the scheduler's operations can do, R244 to R264: it is ignored, or one of the accepted cases. -/
inductive CommandStep (s : State) : Instr → State → Prop where
  /-- R264 -/
  | ignored {i : Instr} {op : Byte} (refused : Refuses s i op) : CommandStep s i (s.ignore hw op)
  /-- R256: silent. -/
  | silent (off : s.released = true ∨ s.phase = .disarmed) : CommandStep s .tick s
  /-- R244 -/
  | arm (hr : s.released = false) (hp : s.phase = .disarmed) :
    CommandStep s .arm { s with phase := .arming, burst := 0, thr := hw.idleThrottle }
  /-- R248 -/
  | disarm (hr : s.released = false) (hp : s.phase = .arming ∨ s.phase = .armed) :
    CommandStep s .disarm (s.enterDisarming hw)
  /-- R250 -/
  | setThrottle (t0 t1 t2 t3 : Half) (hr : s.released = false) (hp : s.phase = .armed) :
    CommandStep s (.setThrottle t0 t1 t2 t3) { s with thr := ⟨t0, t1, t2, t3⟩ }
  /-- R252, R254 in Disarmed. -/
  | release {i : Instr} {x : Bool} (down : TearsDown s i x) (hr : s.released = false) (hp : s.phase = .disarmed) :
    CommandStep s i { s with xerr := x }.release
  /-- R252, R254 in Arming and Armed. -/
  | teardown {i : Instr} {x : Bool} (down : TearsDown s i x) (hr : s.released = false)
    (hp : s.phase = .arming ∨ s.phase = .armed) :
    CommandStep s i { { s with xerr := x }.enterDisarming hw with relPend := true }
  /-- R252, R254 in Disarming. -/
  | pend {i : Instr} {x : Bool} (down : TearsDown s i x) (hr : s.released = false) (hp : s.phase = .disarming) :
    CommandStep s i { s with xerr := x, relPend := true }
  /-- R256 in Armed. -/
  | send (hr : s.released = false) (hp : s.phase = .armed) : CommandStep s .tick (s.sendFrame hw)
  /-- R256 before the last frame of a burst. -/
  | sendBurst (hr : s.released = false) (hp : s.phase = .arming ∨ s.phase = .disarming) (hb : s.burst + 1 ≠ hw.burstLen) :
    CommandStep s .tick { s.sendFrame hw with burst := s.burst + 1 }
  /-- R256 with R258. -/
  | sendArmed (hr : s.released = false) (hp : s.phase = .arming) (hb : s.burst + 1 = hw.burstLen) :
    CommandStep s .tick { s.sendFrame hw with burst := 0, phase := .armed }
  /-- R256 with R260. -/
  | sendDisarmed (hr : s.released = false) (hp : s.phase = .disarming) (hq : s.relPend = false)
    (hb : s.burst + 1 = hw.burstLen) : CommandStep s .tick { s.sendFrame hw with burst := 0, phase := .disarmed }
  /-- R256 with R262. -/
  | sendRelease (hr : s.released = false) (hp : s.phase = .disarming) (hq : s.relPend = true)
    (hb : s.burst + 1 = hw.burstLen) : CommandStep s .tick { s.sendFrame hw with burst := 0, phase := .disarmed }.release

theorem commandStep_teardown {s : State} {i : Instr} {x : Bool} (down : TearsDown s i x) (hr : s.released = false) :
    CommandStep s i (State.teardown hw { s with xerr := x }) := by
  rcases State.teardown_cases hw { s with xerr := x } with ⟨hp, h⟩ | ⟨hp, h⟩ | ⟨hp, h⟩
  · exact h ▸ .release down hr hp
  · exact h ▸ .teardown down hr hp
  · exact h ▸ .pend down hr hp

/-- Every scheduler operation does one of these. -/
theorem commandStep_afterInstr {i : Instr} (h : schedulerOp i = true) (s : State) : CommandStep s i (s.afterInstr i) := by
  cases i with
  | arm =>
    by_cases haccepted : s.released = false ∧ s.phase = .disarmed
    · obtain ⟨hr, hp⟩ := haccepted
      rw [State.afterInstr, Scheduler.arm_of_disarmed hw hr hp]
      exact .arm hr hp
    · have hrefused : s.released = true ∨ s.phase ≠ .disarmed := by simpa [imp_iff_not_or] using haccepted
      rw [State.afterInstr, Scheduler.arm_of_refused hw hrefused]
      exact .ignored (.arm hrefused)
  | disarm =>
    by_cases haccepted : s.released = false ∧ (s.phase = .arming ∨ s.phase = .armed)
    · obtain ⟨hr, hp⟩ := haccepted
      rw [State.afterInstr, Scheduler.disarm_of_arming_or_armed hw hr hp]
      exact .disarm hr hp
    · have hrefused : s.released = true ∨ s.phase = .disarmed ∨ s.phase = .disarming := by
        cases hp : s.phase <;> simp_all
      rw [State.afterInstr, Scheduler.disarm_of_refused hw hrefused]
      exact .ignored (.disarm hrefused)
  | setThrottle t0 t1 t2 t3 =>
    by_cases haccepted : s.released = false ∧ s.phase = .armed
    · obtain ⟨hr, hp⟩ := haccepted
      rw [State.afterInstr, Scheduler.setThrottle_of_armed hw _ hr hp]
      exact .setThrottle t0 t1 t2 t3 hr hp
    · have hrefused : s.released = true ∨ s.phase ≠ .armed := by simpa [imp_iff_not_or] using haccepted
      rw [State.afterInstr, Scheduler.setThrottle_of_refused hw _ hrefused]
      exact .ignored (.setThrottle hrefused)
  | abort =>
    cases hr : s.released with
    | true =>
      rw [State.afterInstr, Scheduler.abort_of_released hw hr]
      exact .ignored (.abort hr)
    | false =>
      rw [State.afterInstr, Scheduler.abort_of_not_released hw hr]
      exact commandStep_teardown (.inl ⟨rfl, rfl⟩) hr
  | transportError =>
    cases hr : s.released with
    | true =>
      rw [State.afterInstr, Scheduler.transportError_of_released hw hr]
      exact .ignored (.transportError hr)
    | false =>
      rw [State.afterInstr, Scheduler.transportError_of_not_released hw hr]
      exact commandStep_teardown (.inr ⟨rfl, rfl⟩) hr
  | tick =>
    rcases s.tick_cases hw with
      ⟨off, h⟩ | ⟨hr, hp, h⟩ | ⟨hr, hp, hb, h⟩ | ⟨hr, hp, hb, h⟩ | ⟨hr, hp, hq, hb, h⟩ | ⟨hr, hp, hq, hb, h⟩
    all_goals rw [State.afterInstr, h]
    · exact .silent off
    · exact .send hr hp
    · exact .sendBurst hr hp hb
    · exact .sendArmed hr hp hb
    · exact .sendDisarmed hr hp hq hb
    · exact .sendRelease hr hp hq hb
  | reset | rxByte | rxFlush | encode | decode | checksum | readReg | illegal | frameA0d0 | frameA021 | frameOther => cases h

/-! ### Any operation -/

theorem eq_afterInstr_of_exec {i : Instr} {s t : State} (h : exec i s = .next t) : t = s.afterInstr i := by
  rw [exec_eq_afterInstr] at h
  exact (Host.Outcome.next.inj h).symm

/-- Of the receiver's side, all but RX_BYTE and RX_FLUSH leave the buffer alone. -/
theorem rx_or_portEffect {i : Instr} (hside : schedulerOp i = false) (hreset : i ≠ .reset) (s : State) :
    (∃ b, i = .rxByte b) ∨ i = .rxFlush ∨ PortEffect s (s.afterInstr i) := by
  cases i with
  | rxByte b => exact .inl ⟨b, rfl⟩
  | rxFlush => exact .inr (.inl rfl)
  | encode | decode | checksum | frameOther => exact .inr (.inr (portEffect_emit s rfl))
  | readReg r => exact .inr (.inr (portEffect_readReg s r))
  | illegal w => exact .inr (.inr (portEffect_illegalOp s _ _))
  | frameA0d0 flags reserved sequence payload cs =>
    exact .inr (.inr (portEffect_route s { flags, cmdId := cmdA0d0, reserved, sequence, payload, checksum := cs }))
  | frameA021 flags reserved sequence payload cs =>
    exact .inr (.inr (portEffect_route s { flags, cmdId := cmdA021, reserved, sequence, payload, checksum := cs }))
  | reset => exact absurd rfl hreset
  | arm | disarm | setThrottle | abort | transportError | tick => cases hside

/-- The receiver's side as a whole: buffer, counters and records that are not on the transport. -/
theorem afterInstr_eq_received {i : Instr} (hside : schedulerOp i = false) (hreset : i ≠ .reset) (s : State) :
    ∃ (rx : List Byte) (k : Counters) (rs : List Record), Quiet rs ∧ s.afterInstr i = received s rx k rs := by
  obtain ⟨b, rfl⟩ | rfl | ⟨k, rs, _, hquiet, h⟩ := rx_or_portEffect hside hreset s
  · obtain ⟨rx, k, rs, hquiet, hscan⟩ := scan_eq_received hw false (s.pushRx b)
    exact ⟨rx, k, rs, hquiet, hscan _ rfl rfl⟩
  · obtain ⟨rx, k, rs, hquiet, hscan⟩ := scan_eq_received hw true s
    exact ⟨rx, k, rs, hquiet, hscan _ rfl rfl⟩
  · exact ⟨s.rxb, k, rs, hquiet, h⟩

/-- Every operation is RESET, a scheduler operation, or on the receiver's side. -/
theorem afterInstr_cases (i : Instr) (s : State) :
    i = .reset ∨ (schedulerOp i = true ∧ CommandStep s i (s.afterInstr i)) ∨
    (schedulerOp i = false ∧ i ≠ .reset ∧
      ∃ (rx : List Byte) (k : Counters) (rs : List Record), Quiet rs ∧ s.afterInstr i = received s rx k rs) := by
  by_cases hreset : i = .reset
  · exact .inl hreset
  · cases hside : schedulerOp i with
    | true => exact .inr (.inl ⟨rfl, commandStep_afterInstr hside s⟩)
    | false => exact .inr (.inr ⟨rfl, hreset, afterInstr_eq_received hside hreset s⟩)

/-- The records a scheduler operation appends, and what it does to COUNTER and TXSEQ: one frame and one step of each, or neither
(R25, R26, R242). -/
def Transmits (s : State) (i : Instr) (t : State) : Prop :=
  ∃ rs : List Record, t.out = s.out ++ rs ∧
    ((txFrames rs = [] ∧ t.counter = s.counter ∧ t.txseq = s.txseq) ∨
      (i = .tick ∧ s.phase ≠ .disarmed ∧ s.released = false ∧ txFrames rs = [s.commandFrame hw] ∧
        t.counter = s.counter + 1 ∧ t.txseq = s.txseq + 1))

/-- RELEASE transmits nothing (R262). -/
theorem txFrames_release (x : Bool) :
    txFrames ((if x then [Record.report .transportIOError] else []) ++ [.released x]) = [] := by
  cases x <;> rfl

theorem CommandStep.transmits {s t : State} {i : Instr} (h : CommandStep s i t) : Transmits s i t := by
  cases h with
  | ignored => exact ⟨[_], rfl, .inl ⟨rfl, rfl, rfl⟩⟩
  | silent | arm | disarm | setThrottle | teardown | pend => exact ⟨[], (List.append_nil _).symm, .inl ⟨rfl, rfl, rfl⟩⟩
  | release => exact ⟨_, State.release_out _, .inl ⟨txFrames_release _, State.release_counter _, State.release_txseq _⟩⟩
  | send hr hp | sendArmed hr hp | sendDisarmed hr hp =>
    exact ⟨[.tx _], rfl, .inr ⟨rfl, by simp [hp], hr, rfl, rfl, rfl⟩⟩
  | sendBurst hr hp => exact ⟨[.tx _], rfl, .inr ⟨rfl, by rcases hp with hp | hp <;> simp [hp], hr, rfl, rfl, rfl⟩⟩
  | sendRelease hr hp =>
    refine ⟨.tx (s.commandFrame hw) :: ((if s.xerr then [.report .transportIOError] else []) ++ [.released s.xerr]), by simp,
      .inr ⟨rfl, by simp [hp], hr, ?_, State.release_counter _, State.release_txseq _⟩⟩
    exact congrArg (s.commandFrame hw :: ·) (txFrames_release s.xerr)

/-- Of all operations but RESET, which alone sets the two numbers otherwise, only TICK transmits. -/
theorem afterInstr_transmits {i : Instr} (hreset : i ≠ .reset) (s : State) : Transmits s i (s.afterInstr i) := by
  rcases afterInstr_cases i s with h | ⟨_, h⟩ | ⟨_, _, rx, k, rs, hquiet, h⟩
  · exact absurd h hreset
  · exact h.transmits
  · rw [h]
    exact ⟨rs, rfl, .inl ⟨hquiet.txFrames_eq_nil, rfl, rfl⟩⟩

theorem afterInstr_out (i : Instr) (s : State) : ∃ rs, (s.afterInstr i).out = s.out ++ rs := by
  by_cases hreset : i = .reset
  · exact ⟨[], by rw [hreset, List.append_nil]; rfl⟩
  · obtain ⟨rs, hout, _⟩ := afterInstr_transmits hreset s
    exact ⟨rs, hout⟩

/-- A scheduler operation leaves the buffer and the words presented, and of the counters it writes CNT_IGNORED at most. -/
theorem CommandStep.receiver {s t : State} {i : Instr} (h : CommandStep s i t) :
    t.rxb = s.rxb ∧ t.pending = s.pending ∧ (t.cnt = s.cnt ∨ t.cnt = s.cnt.bump hw .ignored) := by
  cases h with
  | ignored => exact ⟨rfl, rfl, .inr rfl⟩
  | release | sendRelease => simp
  | _ => exact ⟨rfl, rfl, .inl rfl⟩

/-- After a release the scheduler's operations are ignored or silent (R264). -/
theorem CommandStep.of_released {s t : State} {i : Instr} (hreleased : s.released = true) (h : CommandStep s i t) :
    (∃ op, t = s.ignore hw op) ∨ t = s := by
  cases h with
  | ignored => exact .inl ⟨_, rfl⟩
  | silent => exact .inr rfl
  | arm hr | disarm hr | setThrottle _ _ _ _ hr | release _ hr | teardown _ hr | pend _ hr | send hr | sendBurst hr
  | sendArmed hr | sendDisarmed hr | sendRelease hr => simp [hreleased] at hr

/-- What a scheduler operation does to the throttle file (R20). -/
theorem CommandStep.throttle {s t : State} {i : Instr} (h : CommandStep s i t) :
    t.thr = s.thr ∨
    (∃ t0 t1 t2 t3, i = .setThrottle t0 t1 t2 t3 ∧ s.phase = .armed ∧ t.thr = ⟨t0, t1, t2, t3⟩) ∨
    (((i = .arm ∧ t.phase = .arming) ∨
      ((i = .disarm ∨ i = .abort ∨ i = .transportError) ∧ t.phase = .disarming)) ∧ t.thr = hw.idleThrottle) := by
  cases h with
  | arm => exact .inr (.inr ⟨.inl ⟨rfl, rfl⟩, rfl⟩)
  | disarm => exact .inr (.inr ⟨.inr ⟨.inl rfl, rfl⟩, rfl⟩)
  | setThrottle t0 t1 t2 t3 _ hp => exact .inr (.inl ⟨t0, t1, t2, t3, rfl, hp, rfl⟩)
  | teardown down => exact .inr (.inr ⟨.inr ⟨.inr (down.imp (·.1) (·.1)), rfl⟩, rfl⟩)
  | release | sendRelease => exact .inl (State.release_thr _)
  | ignored | silent | pend | send | sendBurst | sendArmed | sendDisarmed => exact .inl rfl

/-- After a release nothing but RESET reaches the transport or the command state. -/
theorem afterInstr_of_released {i : Instr} {s : State} (hreleased : s.released = true) (hreset : i ≠ .reset) :
    (∃ rs, (s.afterInstr i).out = s.out ++ rs ∧ Quiet rs) ∧ s.sameCommand (s.afterInstr i) := by
  rcases afterInstr_cases i s with h | ⟨_, h⟩ | ⟨_, _, rx, k, rs, hquiet, h⟩
  · exact absurd h hreset
  · obtain ⟨op, h⟩ | h := h.of_released hreleased
    · rw [h]
      exact ⟨⟨[_], rfl, quiet_singleton rfl⟩, rfl, rfl, rfl, rfl, rfl, rfl, rfl, rfl⟩
    · rw [h]
      exact ⟨⟨[], (List.append_nil _).symm, quiet_nil⟩, rfl, rfl, rfl, rfl, rfl, rfl, rfl, rfl⟩
  · rw [h]
    exact ⟨⟨rs, rfl, hquiet⟩, received_sameCommand s rx k rs⟩

/-! ### What an operation leaves alone -/

/-- Settles O30: every operation has its state after it, with records appended; a step is idle or an operation. -/
theorem everyOperationGoesOnAndOnlyAppendsToOut : Obligations.EveryOperationGoesOnAndOnlyAppendsToOut := by
  refine ⟨fun i s => ?_, fun s => ?_⟩
  · obtain ⟨rs, hout⟩ := afterInstr_out i s
    exact ⟨_, rs, exec_eq_afterInstr i s, hout⟩
  · cases hpending : s.pending with
    | nil => exact ⟨s, [], step_idle hpending, (List.append_nil _).symm⟩
    | cons w ws =>
      obtain ⟨rs, hout⟩ := afterInstr_out (decode w) { s with pending := ws }
      exact ⟨_, rs, step_word hpending, hout⟩

/-- Settles O31: the receiver's side writes the buffer, the counters and OUT only. -/
theorem receivingAndCodecLeaveTheCommandState : Obligations.ReceivingAndCodecLeaveTheCommandState := by
  intro i s t hside hreset hexec
  obtain ⟨rx, k, rs, _, h⟩ := afterInstr_eq_received hside hreset s
  rw [eq_afterInstr_of_exec hexec, h]
  exact ⟨received_sameCommand s rx k rs, rfl⟩

/-- Settles O32: what the scheduler's operations leave of the receiver. -/
theorem schedulerOperationsLeaveTheReceiver : Obligations.SchedulerOperationsLeaveTheReceiver := by
  intro i s t hside hexec
  rw [eq_afterInstr_of_exec hexec]
  obtain ⟨hrxb, hpending, hcnt⟩ := (commandStep_afterInstr hside s).receiver
  refine ⟨hrxb, hpending, fun c hc => ?_⟩
  rcases hcnt with hcnt | hcnt
  · rw [hcnt]
  · rw [hcnt, Counters.get_bump_of_ne hw s.cnt hc]

/-- Settles O34: by what each operation transmits. -/
theorem countersStepOncePerTransmittedFrame : Obligations.CountersStepOncePerTransmittedFrame := by
  intro i s t hreset hexec
  obtain ⟨rs, hout, h⟩ := afterInstr_transmits hreset s
  rw [eq_afterInstr_of_exec hexec]
  refine ⟨rs, hout, ?_⟩
  rcases h with ⟨htx, hcounter, htxseq⟩ | ⟨htick, hphase, hreleased, htx, hcounter, htxseq⟩
  · simp [htx, hcounter, htxseq]
  · rw [htx, hcounter, htxseq]
    exact ⟨rfl, rfl, le_rfl, fun _ => ⟨htick, hphase, hreleased⟩⟩

/-- Settles O35: by the cases of the scheduler; RESET writes the idle throttle, the receiver's side nothing. -/
theorem throttleFileIsWrittenOnlyByItsRules : Obligations.ThrottleFileIsWrittenOnlyByItsRules := by
  intro i s t hexec hwritten
  obtain rfl := eq_afterInstr_of_exec hexec
  rcases afterInstr_cases i s with rfl | ⟨_, h⟩ | ⟨_, _, rx, k, rs, _, h⟩
  · exact .inr ⟨.inl rfl, rfl⟩
  · rcases h.throttle with hkept | hset | ⟨hentry, hidle⟩
    · exact absurd hkept hwritten
    · exact .inl hset
    · exact .inr ⟨.inr hentry, hidle⟩
  · exact absurd (by rw [h]; rfl) hwritten

/-- Settles O36: the records are quiet, and the command state is the same, by `afterInstr_of_released`. -/
theorem releasedStateIsLeftOnlyByReset : Obligations.ReleasedStateIsLeftOnlyByReset := by
  intro i s t hreleased hreset hexec
  obtain ⟨⟨rs, hout, hquiet⟩, hsame⟩ := afterInstr_of_released hreleased hreset
  rw [eq_afterInstr_of_exec hexec]
  exact ⟨⟨rs, hout, hquiet.filter_eq_nil⟩, hsame⟩

/-! ### Two runs of the scheduler -/

/-- The command state of `s`, and all else of `s'`. -/
def graft (s s' : State) : State := { s with rxb := s'.rxb, cnt := s'.cnt, out := s'.out, pending := s'.pending }

theorem graft_of_sameCommand {s s' : State} (h : s.sameCommand s') : graft s s' = s' := by
  obtain ⟨hthr, hphase, hburst, hcounter, htxseq, hrelPend, hreleased, hxerr⟩ := h
  rw [graft, ← hthr, ← hphase, ← hburst, ← hcounter, ← htxseq, ← hrelPend, ← hreleased, ← hxerr]

theorem Refuses.afterInstr_eq {s : State} {i : Instr} {op : Byte} (h : Refuses s i op) :
    s.afterInstr i = s.ignore hw op := by
  cases h with
  | arm h => exact Scheduler.arm_of_refused hw h
  | disarm h => exact Scheduler.disarm_of_refused hw h
  | setThrottle h => exact Scheduler.setThrottle_of_refused hw _ h
  | abort h => exact Scheduler.abort_of_released hw h
  | transportError h => exact Scheduler.transportError_of_released hw h

theorem TearsDown.afterInstr_eq {s : State} {i : Instr} {x : Bool} (h : TearsDown s i x) (hr : s.released = false) :
    s.afterInstr i = State.teardown hw { s with xerr := x } := by
  obtain ⟨rfl, rfl⟩ | ⟨rfl, rfl⟩ := h
  · exact Scheduler.abort_of_not_released hw hr
  · exact Scheduler.transportError_of_not_released hw hr

/-- The cases of `CommandStep` exclude each other: each is the state after the operation. -/
theorem CommandStep.afterInstr_eq {s t : State} {i : Instr} (h : CommandStep s i t) : s.afterInstr i = t := by
  cases h with
  | ignored refused => exact refused.afterInstr_eq
  | silent off => exact Scheduler.tick_of_silent hw off
  | arm hr hp => exact Scheduler.arm_of_disarmed hw hr hp
  | disarm hr hp => exact Scheduler.disarm_of_arming_or_armed hw hr hp
  | setThrottle t0 t1 t2 t3 hr hp => exact Scheduler.setThrottle_of_armed hw _ hr hp
  | release down hr hp => exact (down.afterInstr_eq hr).trans (Scheduler.teardown_of_disarmed hw hp)
  | teardown down hr hp => exact (down.afterInstr_eq hr).trans (Scheduler.teardown_of_arming_or_armed hw hp)
  | pend down hr hp => exact (down.afterInstr_eq hr).trans (Scheduler.teardown_of_disarming hw hp)
  | send hr hp => exact Scheduler.tick_of_armed hw hr hp
  | sendBurst hr hp hb => exact Scheduler.tick_within_burst hw hr hp hb
  | sendArmed hr hp hb => exact Scheduler.tick_ends_arming hw hr hp hb
  | sendDisarmed hr hp hq hb => exact Scheduler.tick_ends_disarming hw hr hp hb hq
  | sendRelease hr hp hq hb => exact Scheduler.tick_ends_disarming_and_releases hw hr hp hb hq

theorem Refuses.graft {s : State} {i : Instr} {op : Byte} (h : Refuses s i op) (s' : State) :
    Refuses (graft s s') i op := by
  cases h with
  | arm h => exact .arm h
  | disarm h => exact .disarm h
  | setThrottle h => exact .setThrottle h
  | abort h => exact .abort h
  | transportError h => exact .transportError h

/-- Over any receiver the same case is taken, to the same command state and with the same records. -/
theorem CommandStep.graft {s t : State} {i : Instr} (h : CommandStep s i t) :
    ∃ rs : List Record, ∀ s' : State, ∃ k : Counters,
      CommandStep (graft s s') i (received (Effects.graft t s') s'.rxb k rs) := by
  have quietly {s' : State} {k : Counters} (hstep : CommandStep (Effects.graft s s') i { Effects.graft t s' with cnt := k }) :
      CommandStep (Effects.graft s s') i (received (Effects.graft t s') s'.rxb k []) := by
    rw [received, List.append_nil]
    exact hstep
  cases h with
  | @ignored i op refused =>
    exact ⟨[.report (.opIgnored op s.phase s.released)], fun s' => ⟨s'.cnt.bump hw .ignored, .ignored (refused.graft s')⟩⟩
  | silent off => exact ⟨[], fun s' => ⟨s'.cnt, quietly (.silent off)⟩⟩
  | arm hr hp => exact ⟨[], fun s' => ⟨s'.cnt, quietly (.arm hr hp)⟩⟩
  | disarm hr hp => exact ⟨[], fun s' => ⟨s'.cnt, quietly (.disarm hr hp)⟩⟩
  | setThrottle t0 t1 t2 t3 hr hp => exact ⟨[], fun s' => ⟨s'.cnt, quietly (.setThrottle t0 t1 t2 t3 hr hp)⟩⟩
  | teardown down hr hp => exact ⟨[], fun s' => ⟨s'.cnt, quietly (.teardown down hr hp)⟩⟩
  | pend down hr hp => exact ⟨[], fun s' => ⟨s'.cnt, quietly (.pend down hr hp)⟩⟩
  | @release i x down hr hp =>
    refine ⟨if x then [.report .transportIOError, .released true] else [.released false], fun s' => ⟨s'.cnt, ?_⟩⟩
    have hstep := CommandStep.release (s := Effects.graft s s') down hr hp
    rw [Scheduler.release_eq] at hstep ⊢
    exact hstep
  | send hr hp => exact ⟨[.tx (s.commandFrame hw)], fun s' => ⟨s'.cnt, .send hr hp⟩⟩
  | sendBurst hr hp hb => exact ⟨[.tx (s.commandFrame hw)], fun s' => ⟨s'.cnt, .sendBurst hr hp hb⟩⟩
  | sendArmed hr hp hb => exact ⟨[.tx (s.commandFrame hw)], fun s' => ⟨s'.cnt, .sendArmed hr hp hb⟩⟩
  | sendDisarmed hr hp hq hb => exact ⟨[.tx (s.commandFrame hw)], fun s' => ⟨s'.cnt, .sendDisarmed hr hp hq hb⟩⟩
  | sendRelease hr hp hq hb =>
    refine ⟨[.tx (s.commandFrame hw)] ++ (if s.xerr then [.report .transportIOError, .released true] else [.released false]),
      fun s' => ⟨s'.cnt, ?_⟩⟩
    have hstep := CommandStep.sendRelease (s := Effects.graft s s') hr hp hq hb
    rw [Scheduler.release_eq] at hstep ⊢
    rw [received, ← List.append_assoc]
    exact hstep

/-- Settles O33: the receiver's effect is fixed by buffer and counters; a scheduler operation takes one case over any receiver. -/
theorem receiverAndSchedulerDoNotInterfere : Obligations.ReceiverAndSchedulerDoNotInterfere := by
  constructor
  case left =>
    intro i s₁ s₂ t₁ t₂ hi hrxb hcnt h₁ h₂
    rw [eq_afterInstr_of_exec h₁, eq_afterInstr_of_exec h₂]
    obtain ⟨b, rfl⟩ | rfl := hi
    · obtain ⟨rx, k, rs, _, hscan⟩ := scan_eq_received hw false (s₁.pushRx b)
      have hpush : (s₂.pushRx b).rxb = (s₁.pushRx b).rxb := by rw [State.pushRx_rxb, State.pushRx_rxb, hrxb]
      rw [State.afterInstr, State.afterInstr, hscan _ rfl rfl, hscan _ hpush hcnt.symm]
      exact ⟨rfl, rfl, rs, rfl, rfl⟩
    · obtain ⟨rx, k, rs, _, hscan⟩ := scan_eq_received hw true s₁
      rw [State.afterInstr, State.afterInstr, hscan _ rfl rfl, hscan _ hrxb.symm hcnt.symm]
      exact ⟨rfl, rfl, rs, rfl, rfl⟩
  case right =>
    intro i s₁ s₂ t₁ t₂ hside hsame h₁ h₂
    rw [eq_afterInstr_of_exec h₁, eq_afterInstr_of_exec h₂]
    obtain ⟨rs, hgraft⟩ := (commandStep_afterInstr hside s₁).graft
    obtain ⟨k₁, hstep₁⟩ := hgraft s₁
    obtain ⟨k₂, hstep₂⟩ := hgraft s₂
    rw [graft_of_sameCommand hsame] at hstep₂
    have ht₁ : s₁.afterInstr i = received (graft (s₁.afterInstr i) s₁) s₁.rxb k₁ rs := hstep₁.afterInstr_eq
    rw [hstep₂.afterInstr_eq]
    exact ⟨⟨rfl, rfl, rfl, rfl, rfl, rfl, rfl, rfl⟩, rs, congrArg State.out ht₁, rfl⟩

end Sys2Proof.Effects
end

section
/-! PROOFS. The invariants (10_state.md R23, R30, R32; 41_framer.md R167, R168; 44_scheduler.md R252 to R264): at power-on, and kept
by every operation, hence by every step. -/

namespace Sys2Proof.Invariants

open Sys2Proof.Machine Sys2Proof.Effects

/-- What every operation keeps, and the list of the words presented does not matter to, every step keeps. -/
theorem step_keeps {I : State → Prop} (hpending : ∀ s ws, I s → I { s with pending := ws })
    (hop : ∀ i s, I s → I (s.afterInstr i)) {s t : State} (hs : I s) (h : step s = .next t) : I t := by
  cases hp : s.pending with
  | nil =>
    rw [step_idle hp] at h
    exact Host.Outcome.next.inj h ▸ hs
  | cons w ws =>
    rw [step_word hp] at h
    exact Host.Outcome.next.inj h ▸ hop _ _ (hpending s ws hs)

/-! ### The receive buffer -/

theorem rxbInv_of_scanLoop {P : Params} {s t : State} (h : ScanLoop P false s t) : t.RxbInv := by
  induction h with
  | empty drained => exact .inl drained
  | wait stream head short =>
    refine .inr ⟨by rw [head]; rfl, ?_⟩
    rcases short with rfl | hshort
    · exact .inl (by rw [head]; decide)
    · exact .inr hshort
  | cut flush => cases flush
  | discard _ _ _ ih | accept _ _ _ _ _ ih | reject _ _ _ _ _ ih => exact ih

theorem rxb_eq_nil_of_scanLoop {P : Params} {s t : State} (h : ScanLoop P true s t) : t.rxb = [] := by
  induction h with
  | empty drained => exact drained
  | wait stream => cases stream
  | discard _ _ _ ih | cut _ _ _ _ ih | accept _ _ _ _ _ ih | reject _ _ _ _ _ ih => exact ih

/-- Settles O10: the loop returns on an incomplete candidate or an empty buffer, and in a flush only on the latter. -/
theorem scanLeavesAnIncompleteCandidateAndFlushLeavesNothing :
    Obligations.ScanLeavesAnIncompleteCandidateAndFlushLeavesNothing :=
  ⟨fun b s => ⟨_, exec_eq_afterInstr (.rxByte b) s, rxbInv_of_scanLoop (Framer.scanLoop_scan hw false (s.pushRx b))⟩,
    fun s => ⟨_, exec_eq_afterInstr .rxFlush s, rxb_eq_nil_of_scanLoop (Framer.scanLoop_scan hw true s)⟩⟩

theorem afterInstr_rxbInv (i : Instr) (s : State) (hs : s.RxbInv) : (s.afterInstr i).RxbInv := by
  rcases afterInstr_cases i s with rfl | ⟨_, h⟩ | ⟨hside, hreset, _⟩
  · exact .inl rfl
  · obtain ⟨hrxb, _⟩ := h.receiver
    simpa only [State.RxbInv, hrxb] using hs
  · obtain ⟨b, rfl⟩ | rfl | ⟨k, rs, _, _, h⟩ := rx_or_portEffect hside hreset s
    · exact rxbInv_of_scanLoop (Framer.scanLoop_scan hw false (s.pushRx b))
    · exact .inl (rxb_eq_nil_of_scanLoop (Framer.scanLoop_scan hw true s))
    · exact h ▸ hs

/-- Settles O39: an incomplete candidate lacks at least one of at most 257 bytes. -/
theorem everyStepKeepsTheReceiveBufferInvariant : Obligations.EveryStepKeepsTheReceiveBufferInvariant := by
  intro s t hs h
  have ht : t.RxbInv := step_keeps (fun _ _ hs => hs) afterInstr_rxbInv hs h
  exact ⟨ht, HostControl.rxb_length_le ht⟩

/-! ### The counters -/

/-- The error of a candidate that the scan rejects is one of two (R167). -/
theorem counter_of_rejected {rx r : List Byte} {e : DecodeError} (head : r = sync :: rx)
    (whole : (byteAt r 1).toNat + 2 ≤ r.length)
    (bad : decodeFrame hw.checksumAlg (r.take ((byteAt r 1).toNat + 2)) = .error e) :
    e.counter ∈ [CounterName.shortFrame, .checksumMismatch, .truncated] := by
  have hsync : byteAt (r.take ((byteAt r 1).toNat + 2)) 0 = sync := by
    rw [byteAt_take (by omega), head, byteAt_cons_zero]
  have hlen : (r.take ((byteAt r 1).toNat + 2)).length = (byteAt (r.take ((byteAt r 1).toNat + 2)) 1).toNat + 2 := by
    rw [byteAt_take (by omega), List.length_take, Nat.min_eq_left whole]
  rcases decodeFrame_candidate hsync hlen bad with h | h <;> simp [h]

/-- A property of the counters that no counting of this block breaks: those that count alone, and each of the three causes of a
resynchronization together with CNT_RESYNC (R32, R165, R166). -/
structure CountingKeeps (I : Counters → Prop) : Prop where
  zero : I {}
  alone : ∀ k, I k → ∀ c ∈ [CounterName.rxOk, .discard, .shortPayload, .ignored, .illegal], I (k.bump hw c)
  resync : ∀ k, I k → ∀ c ∈ [CounterName.shortFrame, .checksumMismatch, .truncated], I ((k.bump hw c).bump hw .resync)

section counting

variable {I : Counters → Prop} (hI : CountingKeeps I)
include hI

theorem route_keeps {s : State} (fr : Frame) (hs : I s.cnt) : I (s.route hw fr).cnt := by
  obtain ⟨g, rs, hg, _, _, hroute⟩ := route_eq_received hw fr
  rw [hroute]
  rcases hg with rfl | rfl
  · exact hs
  · exact hI.alone _ hs .shortPayload (by decide)

theorem scanLoop_keeps {final : Bool} {s t : State} (h : ScanLoop hw final s t) (hs : I s.cnt) : I t.cnt := by
  induction h with
  | empty | wait => exact hs
  | discard _ _ _ ih => exact ih (hI.alone _ hs .discard (by decide))
  | cut _ _ _ _ ih => exact ih (hI.resync _ hs .truncated (by decide))
  | accept _ _ _ _ _ ih => exact ih (route_keeps hI _ (hI.alone _ hs .rxOk (by decide)))
  | @reject s _ _ e head _ whole bad _ ih =>
    apply ih
    rw [countRejection_eq_bump]
    exact hI.resync _ hs _ (counter_of_rejected head whole bad)

theorem afterInstr_keeps (i : Instr) (s : State) (hs : I s.cnt) : I (s.afterInstr i).cnt := by
  rcases afterInstr_cases i s with rfl | ⟨_, h⟩ | ⟨hside, hreset, _⟩
  · exact hI.zero
  · obtain ⟨_, _, hcnt | hcnt⟩ := h.receiver
    · rwa [hcnt]
    · rw [hcnt]
      exact hI.alone _ hs _ (by decide)
  · obtain ⟨b, rfl⟩ | rfl | ⟨k, rs, hk, _, h⟩ := rx_or_portEffect hside hreset s
    · exact scanLoop_keeps hI (Framer.scanLoop_scan hw false (s.pushRx b)) hs
    · exact scanLoop_keeps hI (Framer.scanLoop_scan hw true s) hs
    · rw [h, received_cnt]
      rcases hk with rfl | rfl | rfl
      · exact hs
      · exact hI.alone _ hs _ (by decide)
      · exact hI.alone _ hs _ (by decide)

theorem step_keeps_counters {s t : State} (hs : I s.cnt) (h : step s = .next t) : I t.cnt :=
  step_keeps (I := fun s => I s.cnt) (fun _ _ hs => hs) (afterInstr_keeps hI) hs h

end counting

theorem countingKeeps_width : CountingKeeps fun k => ∀ c, k.get c < 2 ^ hw.cntW where
  zero c := by cases c <;> decide
  alone _ h c _ := Counters.bump_width h c
  resync _ h c _ := Counters.bump_width (Counters.bump_width h c) .resync

/-- Settles O40: every count is taken modulo its width. -/
theorem everyStepKeepsTheCounterWidths : Obligations.EveryStepKeepsTheCounterWidths :=
  fun _ _ => step_keeps_counters countingKeeps_width

/-- The resynchronization invariant, which speaks of the counters alone. -/
def ResyncAccount (k : Counters) : Prop :=
  k.badSync = 0 ∧ k.lengthMismatch = 0 ∧
    k.resync % 2 ^ hw.cntW =
      (k.shortFrame + k.checksumMismatch + k.badSync + k.lengthMismatch + k.truncated) % 2 ^ hw.cntW

theorem resyncInv_iff (s : State) : s.ResyncInv hw ↔ ResyncAccount s.cnt := Iff.rfl

theorem countingKeeps_resync : CountingKeeps ResyncAccount where
  zero := ⟨rfl, rfl, rfl⟩
  alone k h c hc := by
    simp only [List.mem_cons, List.not_mem_nil, or_false] at hc
    rcases hc with rfl | rfl | rfl | rfl | rfl <;> exact h
  resync k h c hc := by
    obtain ⟨hbadSync, hlength, hsum⟩ := h
    simp only [List.mem_cons, List.not_mem_nil, or_false] at hc
    rcases hc with rfl | rfl | rfl
    all_goals
      refine ⟨hbadSync, hlength, ?_⟩
      simp only [Counters.bump, countUp, hw] at hsum ⊢
      omega

/-- Settles O41: each cause is counted together with CNT_RESYNC, and two of the causes never are (R167). -/
theorem everyStepKeepsTheResyncAccount : Obligations.EveryStepKeepsTheResyncAccount :=
  fun s t hs h => (resyncInv_iff t).mpr (step_keeps_counters countingKeeps_resync ((resyncInv_iff s).mp hs) h)

/-! ### The command state -/

/-- An invariant of the command state alone: RESET, and each case of a scheduler operation, are all there is to check. -/
theorem afterInstr_keeps_command {I : State → Prop} (hreset : ∀ s : State, I (s.toReset hw))
    (hcommand : ∀ s i t, CommandStep s i t → I s → I t) (hreceived : ∀ s rx k rs, I s → I (received s rx k rs))
    (i : Instr) (s : State) (hs : I s) : I (s.afterInstr i) := by
  rcases afterInstr_cases i s with rfl | ⟨_, h⟩ | ⟨_, _, rx, k, rs, _, h⟩
  · exact hreset s
  · exact hcommand s i _ h hs
  · rw [h]
    exact hreceived s rx k rs hs

theorem burstLen_pos : 0 < hw.burstLen := by decide

theorem commandStep_burstInv {s t : State} {i : Instr} (h : CommandStep s i t) (hs : s.BurstInv hw) : t.BurstInv hw := by
  cases h with
  | ignored | silent | setThrottle | pend | send => exact hs
  | arm | disarm | teardown | sendArmed | sendDisarmed => exact ⟨burstLen_pos, fun _ => rfl⟩
  | release => simpa [State.BurstInv] using hs
  | sendBurst _ hp hb =>
    refine ⟨Nat.lt_of_le_of_ne hs.1 hb, fun hoff => ?_⟩
    rcases hp with hp | hp <;> simp [hp] at hoff
  | sendRelease => simp [State.BurstInv, hw]

/-- Settles O38: a burst ends where BURST would reach its length. -/
theorem everyStepKeepsTheBurstInvariant : Obligations.EveryStepKeepsTheBurstInvariant :=
  fun _ _ => step_keeps (fun _ _ hs => hs)
    (afterInstr_keeps_command (fun _ => ⟨burstLen_pos, fun _ => rfl⟩) (fun _ _ _ => commandStep_burstInv) fun _ _ _ _ hs => hs)

/-- Before a release and outside Disarming there is neither a release pending nor a transport error on its way out. -/
theorem nothing_pending {s : State} (hs : s.TeardownInv) (hr : s.released = false) (hp : s.phase ≠ .disarming) :
    s.relPend = false ∧ s.xerr = false := by
  obtain ⟨hpending, _, hxerr⟩ := hs
  have hq : s.relPend = false := Bool.eq_false_iff.mpr fun hq => hp (hpending hq)
  exact ⟨hq, Bool.eq_false_iff.mpr fun hx => by simpa [hq, hr] using hxerr hx⟩

theorem commandStep_teardownInv {s t : State} {i : Instr} (h : CommandStep s i t) (hs : s.TeardownInv) : t.TeardownInv := by
  cases h with
  | ignored | silent | setThrottle | send | sendBurst => exact hs
  | arm hr hp | sendArmed hr hp =>
    obtain ⟨hq, hx⟩ := nothing_pending hs hr (by simp [hp])
    simp [State.TeardownInv, hr, hq, hx]
  | disarm hr hp =>
    obtain ⟨hq, hx⟩ := nothing_pending hs hr (by rcases hp with hp | hp <;> simp [hp])
    simp [State.TeardownInv, hr, hq, hx]
  | release _ _ hp => simp [State.TeardownInv, hp]
  | teardown _ hr | pend _ hr => simp_all [State.TeardownInv]
  | sendDisarmed hr _ hq =>
    obtain ⟨_, _, hxerr⟩ := hs
    simpa [State.TeardownInv, hr, hq] using hxerr
  | sendRelease => simp [State.TeardownInv]

/-- Settles O42: case by case of what a scheduler operation can do. -/
theorem everyStepKeepsTheTeardownInvariant : Obligations.EveryStepKeepsTheTeardownInvariant :=
  fun _ _ => step_keeps (fun _ _ hs => hs)
    (afterInstr_keeps_command (fun s => by simp [State.TeardownInv]) (fun _ _ _ => commandStep_teardownInv)
      fun _ _ _ _ hs => hs)

/-- Settles O37: every element that an invariant speaks of is zero, empty or Disarmed at power-on. -/
theorem powerOnStateMeetsTheInvariants : Obligations.PowerOnStateMeetsTheInvariants where
  burst := ⟨burstLen_pos, fun _ => rfl⟩
  rxb := .inl rfl
  width := countingKeeps_width.zero
  resync := (resyncInv_iff _).mpr countingKeeps_resync.zero
  teardown := by decide

end Sys2Proof.Invariants
end

section
/-! PROOFS. Runs of the command state machine (44_scheduler.md R258, R260, R266, R268): the frames a sequence of operations sends,
the arming and the disarm burst, and the teardown to its release. -/

namespace Sys2Proof.Runs

open Sys2Proof.Machine Sys2Proof.Effects

/-- The state after a sequence of operations. -/
def afterAll (is : List Instr) (s : State) : State := is.foldl State.afterInstr s

theorem performAll_eq_afterAll (is : List Instr) (s : State) : performAll is s = .next (afterAll is s) :=
  performAll_eq_foldl is s

theorem eq_afterAll_of_performAll {is : List Instr} {s t : State} (h : performAll is s = .next t) : t = afterAll is s := by
  rw [performAll_eq_afterAll] at h
  exact (Host.Outcome.next.inj h).symm

@[simp] theorem afterAll_nil (s : State) : afterAll [] s = s := rfl

theorem afterAll_cons (i : Instr) (is : List Instr) (s : State) : afterAll (i :: is) s = afterAll is (s.afterInstr i) := rfl

theorem afterAll_ticks_succ (k : Nat) (s : State) :
    afterAll (List.replicate (k + 1) .tick) s = (afterAll (List.replicate k .tick) s).afterInstr .tick := by
  rw [afterAll, List.replicate_succ', List.foldl_append]
  rfl

theorem txFrames_append (rs rs' : List Record) : txFrames (rs ++ rs') = txFrames rs ++ txFrames rs' :=
  List.filterMap_append

/-! ### The fields of the command frame -/

section frame

variable (s : State)

theorem wireArm_commandFrame : wireArm (s.commandFrame hw) = armByte s.armed :=
  Encoding.byteAt_commandFrame_payload hw s (k := 15) (by decide)

theorem wireCounter_commandFrame : wireCounter (s.commandFrame hw) = s.counter :=
  (Encoding.le16_commandFrame_payload hw s (k := 16) (by decide)).trans (Encoding.le16_buildA021_counter ..)

theorem wireSequence_commandFrame : wireSequence (s.commandFrame hw) = s.txseq :=
  Encoding.byteAt_frameBytes_sequence ..

end frame

/-! ### The frames of a run are numbered one after the other -/

/-- The frames of a run without RESET carry the counter and the sequence it starts with, and count on (R25, R26). -/
theorem afterAll_numbers_frames (is : List Instr) (hreset : Instr.reset ∉ is) (s : State) (n : Nat)
    (hcounter : s.counter = BitVec.ofNat 16 n) (htxseq : s.txseq = BitVec.ofNat 8 n) :
    ∃ rs : List Record, (afterAll is s).out = s.out ++ rs ∧
      ∀ (k : Nat) (f : List Byte), (txFrames rs)[k]? = some f →
        wireCounter f = BitVec.ofNat 16 (n + k) ∧ wireSequence f = BitVec.ofNat 8 (n + k) := by
  induction is generalizing s n with
  | nil => exact ⟨[], (List.append_nil _).symm, by simp [txFrames]⟩
  | cons i is ih =>
    rw [List.mem_cons, not_or] at hreset
    obtain ⟨hi, his⟩ := hreset
    obtain ⟨rs, hout, h⟩ := afterInstr_transmits (Ne.symm hi) s
    rcases h with ⟨htx, hcounter', htxseq'⟩ | ⟨_, _, _, htx, hcounter', htxseq'⟩
    · obtain ⟨rs', hout', hframes⟩ := ih his _ n (hcounter'.trans hcounter) (htxseq'.trans htxseq)
      refine ⟨rs ++ rs', by rw [afterAll_cons, hout', hout, List.append_assoc], ?_⟩
      rwa [txFrames_append, htx]
    · obtain ⟨rs', hout', hframes⟩ := ih his (s.afterInstr i) (n + 1)
        (by rw [hcounter', hcounter]; exact (BitVec.ofNat_add ..).symm)
        (by rw [htxseq', htxseq]; exact (BitVec.ofNat_add ..).symm)
      refine ⟨rs ++ rs', by rw [afterAll_cons, hout', hout, List.append_assoc], fun k f hf => ?_⟩
      rw [txFrames_append, htx] at hf
      cases k with
      | zero =>
        obtain rfl : s.commandFrame hw = f := Option.some.inj hf
        exact ⟨(wireCounter_commandFrame s).trans hcounter, (wireSequence_commandFrame s).trans htxseq⟩
      | succ k =>
        have hnext := hframes k f hf
        rwa [Nat.add_assoc n 1 k, Nat.add_comm 1 k] at hnext

/-- Settles O46: RESET starts both numbers at 0. -/
theorem kthFrameSinceResetCarriesCounterK : Obligations.KthFrameSinceResetCarriesCounterK := by
  intro is s t hreset h
  rw [eq_afterAll_of_performAll h, afterAll_cons, State.afterInstr]
  simpa using afterAll_numbers_frames is hreset (s.toReset hw) 0 rfl rfl

/-! ### Bursts -/

/-- From `s` to `t`, `k` frames are sent, all with the arm byte `arm`. -/
def Sent (arm : Byte) (k : Nat) (s t : State) : Prop :=
  ∃ rs : List Record, t.out = s.out ++ rs ∧ (txFrames rs).length = k ∧ ∀ f ∈ txFrames rs, wireArm f = arm

theorem sent_zero {arm : Byte} {s t : State} (h : t.out = s.out) : Sent arm 0 s t :=
  ⟨[], by rw [h, List.append_nil], rfl, nofun⟩

theorem sent_one {s t : State} (h : t.out = s.out ++ [.tx (s.commandFrame hw)]) : Sent (armByte s.armed) 1 s t :=
  ⟨_, h, rfl, fun _ hf => List.mem_singleton.mp hf ▸ wireArm_commandFrame s⟩

theorem Sent.trans {arm : Byte} {k m : Nat} {s t u : State} (h : Sent arm k s t) (h' : Sent arm m t u) :
    Sent arm (k + m) s u := by
  obtain ⟨rs, hout, hlen, harm⟩ := h
  obtain ⟨rs', hout', hlen', harm'⟩ := h'
  refine ⟨rs ++ rs', by rw [hout', hout, List.append_assoc], by rw [txFrames_append, List.length_append, hlen, hlen'], ?_⟩
  rw [txFrames_append]
  exact List.forall_mem_append.mpr ⟨harm, harm'⟩

/-- One more TICK of a burst whose frames so far went out in one phase. -/
theorem Sent.tick {k : Nat} {s u : State} (h : Sent (armByte s.armed) k s u) (hphase : u.phase = s.phase)
    (hout : (u.afterInstr .tick).out = u.out ++ [.tx (u.commandFrame hw)]) :
    Sent (armByte s.armed) (k + 1) s (u.afterInstr .tick) := by
  have harmed : u.armed = s.armed := by rw [State.armed, hphase, State.armed]
  rw [← harmed] at h ⊢
  exact h.trans (sent_one hout)

/-- TICKs short of the end of a burst send one frame each and change BURST alone of what the burst depends on. -/
theorem ticks_within_burst {s : State} (hr : s.released = false) (hp : s.phase = .arming ∨ s.phase = .disarming) {k : Nat}
    (hk : s.burst + k < hw.burstLen) :
    let t := afterAll (List.replicate k .tick) s
    Sent (armByte s.armed) k s t ∧ t.released = false ∧ t.phase = s.phase ∧ t.relPend = s.relPend ∧
      t.burst = s.burst + k := by
  induction k with
  | zero => exact ⟨sent_zero rfl, hr, rfl, rfl, rfl⟩
  | succ k ih =>
    obtain ⟨hsent, hr', hp', hq', hb'⟩ := ih (by omega)
    rw [afterAll_ticks_succ]
    set u := afterAll (List.replicate k .tick) s
    have htick : u.afterInstr .tick = { u.sendFrame hw with burst := u.burst + 1 } :=
      (CommandStep.sendBurst hr' (hp' ▸ hp) (by omega)).afterInstr_eq
    refine ⟨hsent.tick hp' (by rw [htick]; rfl), ?_⟩
    rw [htick]
    exact ⟨hr', hp', hq', by rw [hb', Nat.add_assoc]⟩

/-- Settles O43: four TICKs stay within the burst that ARM begins, and the fifth ends it in Armed. -/
theorem armingTakesExactlyFiveTicks : Obligations.ArmingTakesExactlyFiveTicks := by
  intro s k hr hp hk
  have harm : s.afterInstr .arm = { s with phase := .arming, burst := 0, thr := hw.idleThrottle } :=
    (CommandStep.arm hr hp).afterInstr_eq
  rw [performAll_eq_afterAll, afterAll_cons, harm]
  set a : State := { s with phase := .arming, burst := 0, thr := hw.idleThrottle }
  have hburst {m : Nat} (hm : m < 5) := ticks_within_burst (s := a) hr (.inl rfl) (k := m) ((Nat.zero_add m).trans_lt hm)
  obtain hlt | rfl := Nat.lt_or_eq_of_le hk
  · obtain ⟨⟨rs, hout, hlen, harms⟩, _, hphase, _, hb⟩ := hburst hlt
    refine ⟨_, rs, rfl, hout, hlen, harms, ?_, ?_⟩
    · rw [if_neg hlt.ne, hphase]
    · rw [if_neg hlt.ne, hb, Nat.zero_add]
  · obtain ⟨hsent, hr', hphase, _, hb⟩ := hburst (m := 4) (by decide)
    rw [afterAll_ticks_succ]
    set u := afterAll (List.replicate 4 .tick) a
    have htick : u.afterInstr .tick = { u.sendFrame hw with burst := 0, phase := .armed } :=
      (CommandStep.sendArmed hr' hphase (by rw [hb]; rfl)).afterInstr_eq
    obtain ⟨rs, hout, hlen, harms⟩ := hsent.tick hphase (by rw [htick]; rfl)
    exact ⟨_, rs, rfl, hout, hlen, harms, by rw [htick]; rfl, by rw [htick]; rfl⟩

/-- Settles O44: four TICKs stay within the burst that DISARM begins, and the fifth ends it in Disarmed. -/
theorem disarmingTakesExactlyFiveTicks : Obligations.DisarmingTakesExactlyFiveTicks := by
  intro s k hr hp hq hk
  have hdisarm : s.afterInstr .disarm = s.enterDisarming hw := (CommandStep.disarm hr (.inr hp)).afterInstr_eq
  rw [performAll_eq_afterAll, afterAll_cons, hdisarm]
  set a : State := s.enterDisarming hw
  have hburst {m : Nat} (hm : m < 5) := ticks_within_burst (s := a) hr (.inr rfl) (k := m) ((Nat.zero_add m).trans_lt hm)
  obtain hlt | rfl := Nat.lt_or_eq_of_le hk
  · obtain ⟨⟨rs, hout, hlen, harms⟩, hr', hphase, _, _⟩ := hburst hlt
    refine ⟨_, rs, rfl, hout, hlen, harms, ?_, hr'⟩
    rw [if_neg hlt.ne, hphase]
    rfl
  · obtain ⟨hsent, hr', hphase, hq', hb⟩ := hburst (m := 4) (by decide)
    rw [afterAll_ticks_succ]
    set u := afterAll (List.replicate 4 .tick) a
    have htick : u.afterInstr .tick = { u.sendFrame hw with burst := 0, phase := .disarmed } :=
      (CommandStep.sendDisarmed hr' hphase (hq'.trans hq) (by rw [hb]; rfl)).afterInstr_eq
    obtain ⟨rs, hout, hlen, harms⟩ := hsent.tick hphase (by rw [htick]; rfl)
    exact ⟨_, rs, rfl, hout, hlen, harms, by rw [htick]; rfl, by rw [htick]; exact hr'⟩

/-! ### The teardown -/

/-- The teardown after `n` of its frames: the disarm burst runs, with the release pending at its end. -/
structure Draining (n : Nat) (s : State) : Prop where
  released : s.released = false
  phase : s.phase = .disarming
  pending : s.relPend = true
  burst : s.burst = n

/-- What an operation of the teardown leaves: `n + 1` frames sent and the rest to go; the last one and RELEASED sent; or, for all
but TICK, `n` frames and nothing new on the transport. -/
def DrainStep (n : Nat) (s : State) (i : Instr) (t : State) : Prop :=
  (i ≠ .tick ∧ Draining n t ∧ ∃ rs, t.out = s.out ++ rs ∧ Quiet rs) ∨
  (i = .tick ∧ ∃ f rs, wireArm f = 0x00#8 ∧ t.out = s.out ++ rs ∧
    ((n + 1 < 5 ∧ Draining (n + 1) t ∧ rs.filter Record.onTransport = [.tx f]) ∨
      (n + 1 = 5 ∧ t.released = true ∧ ∃ x, rs.filter Record.onTransport = [.tx f, .released x])))

theorem filter_release (x : Bool) :
    ((if x then [Record.report .transportIOError] else []) ++ [Record.released x]).filter Record.onTransport = [.released x] := by
  cases x <;> rfl

theorem Draining.commandStep {n : Nat} {s t : State} {i : Instr} (hs : Draining n s) (hn : n < 5) (h : CommandStep s i t) :
    DrainStep n s i t := by
  obtain ⟨hr, hp, hq, rfl⟩ := hs
  have harm : wireArm (s.commandFrame hw) = 0x00#8 :=
    (wireArm_commandFrame s).trans (Encoding.armByte_of_disarming hp)
  cases h with
  | ignored refused =>
    have hi : i ≠ .tick := by rintro rfl; cases refused
    exact .inl ⟨hi, ⟨hr, hp, hq, rfl⟩, _, rfl, quiet_singleton rfl⟩
  | pend down =>
    have hi : i ≠ .tick := by rintro rfl; simp [TearsDown] at down
    exact .inl ⟨hi, ⟨hr, hp, rfl, rfl⟩, [], (List.append_nil _).symm, quiet_nil⟩
  | sendBurst _ _ hb =>
    exact .inr ⟨rfl, _, [.tx (s.commandFrame hw)], harm, rfl, .inl ⟨Nat.lt_of_le_of_ne hn hb, ⟨hr, hp, hq, rfl⟩, rfl⟩⟩
  | sendRelease _ _ _ hb =>
    refine .inr ⟨rfl, _, .tx (s.commandFrame hw) :: ((if s.xerr then [.report .transportIOError] else []) ++
      [.released s.xerr]), harm, by simp, .inr ⟨hb, State.release_released _, s.xerr, ?_⟩⟩
    exact congrArg (Record.tx (s.commandFrame hw) :: ·) (filter_release s.xerr)
  | silent off => simp [hr, hp] at off
  | disarm _ hp' | teardown _ _ hp' => simp [hp] at hp'
  | arm _ hp' | setThrottle _ _ _ _ _ hp' | release _ _ hp' | send _ hp' | sendArmed _ hp' => simp [hp] at hp'
  | sendDisarmed _ _ hq' => simp [hq] at hq'

theorem Draining.afterInstr {n : Nat} {s : State} {i : Instr} (hs : Draining n s) (hn : n < 5) (hreset : i ≠ .reset) :
    DrainStep n s i (s.afterInstr i) := by
  rcases afterInstr_cases i s with h | ⟨_, h⟩ | ⟨hside, _, rx, k, rs, hquiet, h⟩
  · exact absurd h hreset
  · exact hs.commandStep hn h
  · have hi : i ≠ .tick := by rintro rfl; cases hside
    rw [h]
    exact .inl ⟨hi, ⟨hs.released, hs.phase, hs.pending, hs.burst⟩, rs, rfl, hquiet⟩

/-- After the release nothing more goes on the transport until RESET. -/
theorem afterAll_of_released (is : List Instr) (hreset : Instr.reset ∉ is) {s : State} (hreleased : s.released = true) :
    ∃ rs, (afterAll is s).out = s.out ++ rs ∧ Quiet rs := by
  induction is generalizing s with
  | nil => exact ⟨[], (List.append_nil _).symm, quiet_nil⟩
  | cons i is ih =>
    rw [List.mem_cons, not_or] at hreset
    obtain ⟨⟨rs, hout, hquiet⟩, _, _, _, _, _, _, hreleased', _⟩ := afterInstr_of_released hreleased (Ne.symm hreset.1)
    obtain ⟨rs', hout', hquiet'⟩ := ih hreset.2 (hreleased'.trans hreleased)
    exact ⟨rs ++ rs', by rw [afterAll_cons, hout', hout, List.append_assoc], hquiet.append hquiet'⟩

/-- What the rest of a teardown, `m` frames and the release, puts on the transport in a run with so many TICKs. -/
def Drains (m ticks : Nat) (rs : List Record) : Prop :=
  ∃ fs : List (List Byte), (∀ f ∈ fs, wireArm f = 0x00#8) ∧ fs.length = min m ticks ∧
    ((fs.length < m ∧ rs.filter Record.onTransport = fs.map .tx) ∨
      (fs.length = m ∧ ∃ x, rs.filter Record.onTransport = fs.map .tx ++ [.released x]))

theorem afterAll_drains (is : List Instr) (hreset : Instr.reset ∉ is) {m n : Nat} {s : State} (hs : Draining n s)
    (hm : m + n = 5) (hpos : 0 < m) :
    ∃ rs, (afterAll is s).out = s.out ++ rs ∧ Drains m (is.count .tick) rs := by
  induction is generalizing s m n with
  | nil => exact ⟨[], (List.append_nil _).symm, [], nofun, by simp, .inl ⟨hpos, rfl⟩⟩
  | cons i is ih =>
    rw [List.mem_cons, not_or] at hreset
    obtain ⟨hi, his⟩ := hreset
    rcases hs.afterInstr (i := i) (by omega) (Ne.symm hi) with ⟨htick, ht, rs, hout, hquiet⟩ | ⟨rfl, f, rs, harm, hout, h⟩
    · obtain ⟨rs', hout', fs, harms, hlen, hfs⟩ := ih his ht hm hpos
      refine ⟨rs ++ rs', by rw [afterAll_cons, hout', hout, List.append_assoc], fs, harms, ?_, ?_⟩
      · rw [List.count_cons_of_ne htick, hlen]
      · rwa [List.filter_append, hquiet.filter_eq_nil]
    · rcases h with ⟨hn, ht, hrs⟩ | ⟨hn, hreleased, x, hrs⟩
      · obtain ⟨rs', hout', fs, harms, hlen, hfs⟩ := ih his (m := m - 1) ht (by omega) (by omega)
        refine ⟨rs ++ rs', by rw [afterAll_cons, hout', hout, List.append_assoc], f :: fs,
          List.forall_mem_cons.mpr ⟨harm, harms⟩, ?_, ?_⟩
        · rw [List.length_cons, hlen, List.count_cons_self]
          omega
        · rw [List.filter_append, hrs, List.length_cons]
          rcases hfs with ⟨hlt, hfs⟩ | ⟨heq, x, hfs⟩
          · exact .inl ⟨by omega, by rw [hfs]; rfl⟩
          · exact .inr ⟨by omega, x, by rw [hfs]; rfl⟩
      · obtain ⟨rs', hout', hquiet⟩ := afterAll_of_released is his hreleased
        refine ⟨rs ++ rs', by rw [afterAll_cons, hout', hout, List.append_assoc], [f],
          List.forall_mem_singleton.mpr harm, ?_, .inr ⟨?_, x, ?_⟩⟩
        · rw [List.length_singleton, List.count_cons_self]
          omega
        · rw [List.length_singleton]
          omega
        · rw [List.filter_append, hrs, hquiet.filter_eq_nil]
          rfl

/-- Settles O45: the teardown begins with five frames to go. -/
theorem teardownSendsFiveDisarmedFramesThenReleases : Obligations.TeardownSendsFiveDisarmedFramesThenReleases := by
  intro i is s t hi hr hp hreset h
  obtain ⟨x, down⟩ : ∃ x, TearsDown s i x := by
    rcases hi with rfl | rfl
    · exact ⟨_, .inl ⟨rfl, rfl⟩⟩
    · exact ⟨_, .inr ⟨rfl, rfl⟩⟩
  rw [eq_afterAll_of_performAll h, afterAll_cons, (CommandStep.teardown down hr hp).afterInstr_eq]
  obtain ⟨rs, hout, fs, hdrains⟩ := afterAll_drains is hreset (m := 5) (n := 0)
    (s := { { s with xerr := x }.enterDisarming hw with relPend := true }) ⟨hr, rfl, rfl, rfl⟩ rfl (by decide)
  exact ⟨rs, fs, hout, hdrains⟩

end Sys2Proof.Runs
end

section
/-! PROOFS. The received stream (41_framer.md R164, R174, R175) and the router's dispatch (43_router.md R211): a whole frame at the
head of the buffer, bytes that arrive one at a time, and frames in garbage. -/

namespace Sys2Proof.Stream

open Sys2Proof.Machine Sys2Proof.Effects Sys2Proof.Runs

/-! ### FRAME rows -/

theorem exec_ofFrame (fr : Frame) (s : State) : exec (.ofFrame fr) s = .next (s.route hw fr) := by
  obtain ⟨flags, cmdId, reserved, sequence, payload, cs⟩ := fr
  rw [exec_eq_afterInstr, Instr.ofFrame, State.route]
  by_cases htelemetry : cmdId = cmdA0d0
  · subst htelemetry
    rfl
  · rw [if_neg htelemetry, if_neg htelemetry]
    by_cases hcommand : cmdId = cmdA021
    · subst hcommand
      rfl
    · rw [if_neg hcommand, if_neg hcommand]
      rfl

/-- Settles O21: the two tests of R211 on `cmd_id`, in ROUTE as in the choice of the row. -/
theorem routeDispatchesOnCmdIdAlone : Obligations.RouteDispatchesOnCmdIdAlone :=
  fun fr s => ⟨exec_ofFrame fr s, fun htelemetry => if_pos htelemetry,
    fun hcommand => (if_neg (hcommand ▸ by decide)).trans (if_pos hcommand),
    fun htelemetry hcommand => (if_neg htelemetry).trans (if_neg hcommand)⟩

/-! ### A whole frame at the head of the buffer -/

/-- ROUTE neither reads nor writes the buffer. -/
theorem route_with_rxb (P : Params) (s : State) (fr : Frame) (rx : List Byte) :
    { s.route P fr with rxb := rx } = State.route P { s with rxb := rx } fr := by
  obtain ⟨g, rs, _, _, _, hroute⟩ := route_eq_received P fr
  rw [hroute, hroute]
  rfl

/-- The scan takes a well-formed frame whole, performs ROUTE of it, and goes on behind it (R164). -/
theorem scan_wire {P : Params} {final : Bool} {s : State} {fr : Frame} {d : List Byte} (good : fr.wf P.checksumAlg)
    (hs : s.rxb = fr.wire ++ d) :
    s.scan P final =
      (State.route P { s with rxb := d, cnt := { s.cnt with rxOk := (s.cnt.rxOk + 1) % 2 ^ P.cntW } } fr).scan P final := by
  obtain ⟨rx, head, more⟩ : ∃ rx, fr.wire ++ d = sync :: rx ∧ rx ≠ [] := ⟨_, rfl, nofun⟩
  have hn : (byteAt s.rxb 1).toNat + 2 = fr.wire.length := by
    rw [hs, RoundTrip.byteAt_wire_length d good.1, Frame.wire_length]
    omega
  have whole : (byteAt s.rxb 1).toNat + 2 ≤ s.rxb.length := by
    rw [hn, hs, List.length_append]
    omega
  have hdecode : decodeFrame P.checksumAlg (s.rxb.take ((byteAt s.rxb 1).toNat + 2)) = .ok fr := by
    rw [hn, hs, List.take_left]
    simpa using RoundTrip.decodeFrame_wire good []
  rw [Framer.scan_of_good (hs.trans head) more whole hdecode, route_with_rxb, hn, hs, List.drop_left]

/-- Settles O11: with its last byte the frame is whole and alone in the buffer, so the scan ends after its row. -/
theorem completedFramePerformsItsFrameRow : Obligations.CompletedFramePerformsItsFrameRow := by
  intro fr s hwf hs
  have hne : fr.wire ≠ [] := nofun
  have hlast : byteAt fr.wire (fr.wire.length - 1) = fr.wire.getLast hne := by
    rw [List.getLast_eq_getElem, byteAt, List.getD_eq_getElem _ _ (by rw [Frame.wire_length]; omega)]
  have hbuffer : (s.pushRx (byteAt fr.wire (fr.wire.length - 1))).rxb = fr.wire ++ [] := by
    rw [State.pushRx_rxb, hs, hlast, List.dropLast_append_getLast, List.append_nil]
  refine ⟨_, exec_eq_afterInstr _ s, ?_⟩
  rw [exec_ofFrame, State.afterInstr, scan_wire (P := hw) hwf hbuffer, Framer.scan_of_empty (by rw [State.route_rxb])]
  rfl

/-! ### Bytes one at a time -/

/-- `s` with the bytes `d` received after those in the buffer. -/
def feed (s : State) (d : List Byte) : State := { s with rxb := s.rxb ++ d }

theorem feed_nil (s : State) : feed s [] = s := by rw [feed, List.append_nil]

theorem feed_pushRx (s : State) (b : Byte) (d : List Byte) : feed (s.pushRx b) d = feed s (b :: d) := by
  rw [feed, State.pushRx_rxb, List.append_assoc]
  rfl

/-- Bytes that follow a complete candidate change neither its length byte nor its bytes. -/
theorem candidate_feed {s : State} {rx : List Byte} (head : s.rxb = sync :: rx) (more : rx ≠ [])
    (whole : (byteAt s.rxb 1).toNat + 2 ≤ s.rxb.length) (d : List Byte) :
    byteAt (feed s d).rxb 1 = byteAt s.rxb 1 ∧
      (feed s d).rxb.take ((byteAt s.rxb 1).toNat + 2) = s.rxb.take ((byteAt s.rxb 1).toNat + 2) ∧
      (byteAt s.rxb 1).toNat + 2 ≤ (feed s d).rxb.length := by
  have hlen : 1 < s.rxb.length := by
    have := List.length_pos_of_ne_nil more
    rw [head, List.length_cons]
    omega
  refine ⟨byteAt_append_left hlen, List.take_append_of_le_length whole, whole.trans ?_⟩
  rw [feed, List.length_append]
  exact Nat.le_add_right ..

/-- A flush gives the same whether the stream scan has already run on the bytes so far: where that scan goes on, so does the flush,
whatever bytes follow. -/
theorem flush_feed_of_scanLoop {P : Params} {s t : State} (h : ScanLoop P false s t) (d : List Byte) :
    (feed s d).scan P true = (feed t d).scan P true := by
  induction h with
  | empty | wait => rfl
  | cut flush => cases flush
  | @discard s t b rx head noSync _ ih =>
    have head' : (feed s d).rxb = b :: (rx ++ d) := by rw [feed, head, List.cons_append]
    exact (Framer.scan_of_noSync head' noSync).trans ih
  | @accept s t rx fr head more whole good _ ih =>
    have head' : (feed s d).rxb = sync :: (rx ++ d) := by rw [feed, head, List.cons_append]
    obtain ⟨hbyte, htake, whole'⟩ := candidate_feed head more whole d
    have hdrop : (feed s d).rxb.drop ((byteAt s.rxb 1).toNat + 2) = s.rxb.drop ((byteAt s.rxb 1).toNat + 2) ++ d :=
      List.drop_append_of_le_length whole
    rw [Framer.scan_of_good head' (by simp [more]) (by rwa [hbyte]) (by rwa [hbyte, htake]), hbyte, hdrop, route_with_rxb]
    rw [feed, route_with_rxb] at ih
    exact ih
  | @reject s t rx e head more whole bad _ ih =>
    have head' : (feed s d).rxb = sync :: (rx ++ d) := by rw [feed, head, List.cons_append]
    obtain ⟨hbyte, htake, whole'⟩ := candidate_feed head more whole d
    exact (Framer.scan_of_bad head' (by simp [more]) (by rwa [hbyte]) (by rwa [hbyte, htake])).trans ih

/-- Bytes received one at a time and then flushed are flushed all at once. -/
theorem flush_after_rxBytes (d : List Byte) (s : State) :
    (afterAll (d.map .rxByte) s).scan hw true = (feed s d).scan hw true := by
  induction d generalizing s with
  | nil => rw [List.map_nil, afterAll_nil, feed_nil]
  | cons b d ih =>
    calc (afterAll ((b :: d).map .rxByte) s).scan hw true
        = (feed ((s.pushRx b).scan hw false) d).scan hw true := ih _
      _ = (feed (s.pushRx b) d).scan hw true :=
        (flush_feed_of_scanLoop (Framer.scanLoop_scan hw false (s.pushRx b)) d).symm
      _ = (feed s (b :: d)).scan hw true := by rw [feed_pushRx]

/-- From an empty buffer the run is the offline scan of R174. -/
theorem performAll_stream (d : List Byte) {s : State} (hs : s.rxb = []) :
    performAll (d.map .rxByte ++ [.rxFlush]) s = .next (State.scan hw true { s with rxb := d }) := by
  have hfeed : feed s d = { s with rxb := d } := by rw [feed, hs, List.nil_append]
  rw [performAll_eq_afterAll, afterAll, List.foldl_append, ← hfeed, ← flush_after_rxBytes]
  rfl

/-- Settles O47: both runs end in the flush of all the bytes. -/
theorem streamThenFlushEqualsOfflineScan : Obligations.StreamThenFlushEqualsOfflineScan := by
  intro d s t hs
  rw [performAll_stream d hs, exec_eq_afterInstr, State.afterInstr]

/-! ### Frames in garbage -/

theorem rxFrames_append (rs rs' : List Record) : rxFrames (rs ++ rs') = rxFrames rs ++ rxFrames rs' :=
  List.filterMap_append

/-- From `s` to `t` the frames `frs` are accepted, and CNT_RESYNC goes up `k` times. -/
def Accepts (frs : List Frame) (k : Nat) (s t : State) : Prop :=
  ∃ rs : List Record, t.out = s.out ++ rs ∧ rxFrames rs = frs ∧ t.cnt.resync % 2 ^ 16 = (s.cnt.resync + k) % 2 ^ 16

theorem Accepts.trans {frs frs' : List Frame} {k k' : Nat} {s t u : State} (h : Accepts frs k s t)
    (h' : Accepts frs' k' t u) : Accepts (frs ++ frs') (k + k') s u := by
  obtain ⟨rs, hout, hframes, hresync⟩ := h
  obtain ⟨rs', hout', hframes', hresync'⟩ := h'
  refine ⟨rs ++ rs', by rw [hout', hout, List.append_assoc], by rw [rxFrames_append, hframes, hframes'], ?_⟩
  omega

theorem accepts_route (s : State) (fr : Frame) : Accepts [fr] 0 s (s.route hw fr) := by
  obtain ⟨g, rs, hg, _, hframes, hroute⟩ := route_eq_received hw fr
  rw [hroute]
  refine ⟨rs, rfl, hframes, ?_⟩
  rcases hg with rfl | rfl <;> rfl

theorem countRejection_resync (P : Params) (k : Counters) (e : DecodeError) :
    (countRejection P k e).resync = (k.resync + 1) % 2 ^ P.cntW := by
  cases e <;> rfl

/-- What the scan does to a byte of garbage: it is skipped, or its candidate is cut off or rejected, which costs one
resynchronization; a good candidate is what the condition of R175 shuts out. -/
theorem scan_garbage {s : State} {b : Byte} {d : List Byte} (hs : s.rxb = b :: d)
    (noFalseFrame : b = sync → (byteAt d 0).toNat + 2 ≤ (b :: d).length →
      ∀ fr, decodeFrame hw.checksumAlg ((b :: d).take ((byteAt d 0).toNat + 2)) ≠ .ok fr) :
    ∃ (u : State) (k : Nat), s.scan hw true = u.scan hw true ∧ u.rxb = d ∧ k ≤ 1 ∧ Accepts [] k s u := by
  by_cases hsync : b = sync
  · subst hsync
    by_cases short : d = [] ∨ s.rxb.length < (byteAt s.rxb 1).toNat + 2
    · refine ⟨_, 1, Framer.scan_of_incomplete_flush hs short, rfl, le_rfl,
        [.report (.truncated s.rxb.length d.head?)], rfl, rfl, ?_⟩
      exact Nat.mod_mod _ _
    · obtain ⟨more, hwhole⟩ := not_or.mp short
      have whole := Nat.not_lt.mp hwhole
      cases hd : decodeFrame hw.checksumAlg (s.rxb.take ((byteAt s.rxb 1).toNat + 2)) with
      | ok fr =>
        rw [hs] at whole hd
        exact absurd hd (noFalseFrame rfl whole fr)
      | error e =>
        refine ⟨_, 1, Framer.scan_of_bad hs more whole hd, rfl, le_rfl, [.report (.decoding e)], rfl, rfl, ?_⟩
        rw [countRejection_resync]
        exact Nat.mod_mod _ _
  · exact ⟨_, 0, Framer.scan_of_noSync hs hsync, rfl, Nat.zero_le _, [], (List.append_nil _).symm, rfl, rfl⟩

theorem scan_framesInGarbage {d : List Byte} {frs : List Frame} {n : Nat} (h : FramesInGarbage .crc16R d frs n) {s : State}
    (hs : s.rxb = d) : ∃ k, k ≤ n ∧ Accepts frs k s (s.scan hw true) := by
  induction h generalizing s with
  | nil =>
    rw [Framer.scan_of_empty hs]
    exact ⟨0, le_rfl, [], (List.append_nil _).symm, rfl, rfl⟩
  | garbage noFalseFrame _ ih =>
    obtain ⟨u, k, hscan, hu, hk, haccepts⟩ := scan_garbage hs noFalseFrame
    obtain ⟨k', hk', haccepts'⟩ := ih hu
    rw [hscan]
    exact ⟨k + k', by omega, haccepts.trans haccepts'⟩
  | @frame fr d frs n good _ ih =>
    rw [scan_wire (P := hw) good hs]
    obtain ⟨k, hk, haccepts⟩ := ih (State.route_rxb hw
      { s with rxb := d, cnt := { s.cnt with rxOk := (s.cnt.rxOk + 1) % 2 ^ hw.cntW } } fr)
    have hrouted := (accepts_route _ fr).trans haccepts
    rw [Nat.zero_add] at hrouted
    exact ⟨k, hk, hrouted⟩

/-- Settles O48: along the stream, after O47 has made the run one flush of it. -/
theorem framesInGarbageAreAllReceivedInOrder : Obligations.FramesInGarbageAreAllReceivedInOrder := by
  intro d frs n s h hs
  obtain ⟨k, hk, rs, hout, hframes, hresync⟩ := scan_framesInGarbage h (s := { s with rxb := d }) rfl
  exact ⟨_, rs, k, performAll_stream d hs, hout, hframes, hk, hresync⟩

end Sys2Proof.Stream
end

section
/-! PROOFS. RESET and power-on (10_state.md R45, 70_reset_and_hazards.md R350), and the words that the host presents at once
(60_exceptions.md R318). -/

namespace Sys2Proof.HostPort

open Sys2Proof.Machine

/-! ### RESET -/

theorem counters_get_zero (c : CounterName) : ({} : Counters).get c = 0 := by
  cases c <;> rfl

/-- Settles O1: RESET leaves the power-on state but for OUT and the words presented. -/
theorem resetAndPowerOnGiveTheResetValues : Obligations.ResetAndPowerOnGiveTheResetValues := by
  have hexec (s : State) : exec .reset s = .next (s.toReset hw) := exec_eq_afterInstr .reset s
  exact ⟨fun s => ⟨s.toReset hw, hexec s, rfl, rfl, rfl, rfl, rfl, rfl, rfl, rfl, rfl, counters_get_zero, rfl, rfl⟩,
    fun s => hexec s, rfl⟩

/-! ### The order of words presented at once -/

/-- The place of a word's operation in the order of R318. -/
def wordRank (w : List Byte) : Nat := Instr.rank (decode w)

/-- The opcodes in the order of R318. -/
def presentationOrder : List Byte :=
  [0x01#8, 0x06#8, 0x05#8, 0x03#8, 0x02#8, 0x04#8, 0x07#8, 0x10#8, 0x11#8, 0x20#8, 0x21#8, 0x22#8, 0x30#8]

/-- The rank of a legal word is the place of its opcode. -/
theorem wordRank_of_legal {w : List Byte} (h : legalWord w = true) :
    wordRank w = presentationOrder.idxOf (byteAt w 0) ∧ wordRank w < 13 := by
  obtain ⟨i, hhost, hwf, rfl⟩ := RoundTrip.exists_encode_eq_of_listedShape ((RoundTrip.legalWord_iff_listedShape w).mp h)
  rw [wordRank, RoundTrip.decodeUndoesEncodeOfHostWords i hhost hwf]
  cases i with
  | illegal w =>
    rw [Instr.wellFormed, show legalWord w = true from h] at hwf
    cases hwf
  | frameA0d0 | frameA021 | frameOther => cases hhost
  | _ => exact ⟨rfl, of_decide_eq_true rfl⟩

/-- An illegal word comes after every legal one (log 16). -/
theorem wordRank_of_not_legal {w : List Byte} (h : legalWord w = false) : wordRank w = 13 := by
  rw [wordRank, RoundTrip.decode_of_not_legal h]
  rfl

/-- Words presented at once are sorted by insertion, by their rank. -/
theorem serialize_eq_insertionSort (ws : List (List Byte)) :
    serialize ws = ws.insertionSort (wordRank · ≤ wordRank ·) := by
  have hinsert (w : List Byte) (vs : List (List Byte)) :
      insertByRank w vs = vs.orderedInsert (wordRank · ≤ wordRank ·) w := by
    induction vs with
    | nil => rfl
    | cons v vs ih => rw [insertByRank, List.orderedInsert_cons, ih]; rfl
  induction ws with
  | nil => rfl
  | cons w ws ih => rw [List.insertionSort_cons, ← ih, ← hinsert]; rfl

/-- Settles O49: an insertion sort by rank, and the rank of a legal word is its place in the order of R318. -/
theorem wordsPresentedAtOnceAreSerialized : Obligations.WordsPresentedAtOnceAreSerialized := by
  refine ⟨fun ws => ⟨?perm, ?sorted⟩, fun s ws => rfl, fun s w => ⟨rfl, rfl⟩⟩
  case perm =>
    rw [serialize_eq_insertionSort]
    exact List.perm_insertionSort _ ws
  case sorted =>
    have hsorted : (serialize ws).Pairwise (wordRank · ≤ wordRank ·) := by
      rw [serialize_eq_insertionSort]
      exact List.pairwise_insertionSort _ ws
    refine hsorted.imp fun {a b} hrank => ⟨fun ha hb => ?_, fun ha => ?_⟩
    · rw [(wordRank_of_legal ha).1, (wordRank_of_legal hb).1] at hrank
      exact hrank
    · rw [wordRank_of_not_legal ha] at hrank
      by_contra hb
      have hb := (wordRank_of_legal (Bool.not_eq_false _ ▸ hb)).2
      omega

end Sys2Proof.HostPort
end
